-- ==== Sys2Proof/Word.lean ====
section
/-! DEFINITION. The word types of the GL40: bytes on its links, and the fixed-size tables its blocks hold. -/

namespace Sys2Proof

/-- A byte of the station link or of the hall line (R70, R185). -/
abbrev Byte := BitVec 8

/-- A table rebuilt entry by entry, the index known. -/
def tabulate {α : Type} {n : Nat} (f : Fin n → α) : Vector α n := Vector.ofFn f

@[simp] theorem getElem_tabulate {α : Type} {n : Nat} (f : Fin n → α) (i : Nat) (h : i < n) :
    (tabulate f)[i] = f ⟨i, h⟩ := by simp [tabulate]

end Sys2Proof
end

