-- ==== Sys2Proof/Config.lean ====
section
/-! DEFINITION. What the GL40 fixes: sizes and times the rules state, and the one value the manual leaves open. -/

namespace Sys2Proof.Config

/-- The fault code of a load, a displacement or a raw strain sample (00, Units and value ranges). -/
def faultCode : Int := -8388608

/-- The largest magnitude of a load, displacement or raw strain (00). -/
def maxLoad : Int := 8388607

/-- The length of the control period in µs (00, Time: 1 ms). -/
def controlPeriod : Nat := 1000

/-- The length of the chatter window in µs (R103: 100 ms). -/
def chatterWindow : Nat := 100000

/-- The unit of the rate window setting in µs (R177: 100 ms). -/
def rateUnit : Nat := 100000

/-- One millisecond in µs. -/
def millisecond : Nat := 1000

/-- Idle bit times before an attempt (R79). -/
def deferBits : Nat := 20

/-- Idle bit times before the receiver hunts again (R74, R76). -/
def huntBits : Nat := 10

/-- Bit times of a driven hall-stop break (R88). -/
def breakBits : Nat := 40

/-- Bit times at space that make a break (R90). -/
def breakRecognition : Nat := 30

/-- Bit times of one back-off slot (R84). -/
def slotBits : Nat := 256

/-- Bit times of the header, in which contention is a collision (R83). -/
def headerBits : Nat := 50

/-- The most attempts at one frame (R86). -/
def maxAttempts : Nat := 16

/-- Places of the segment queue (R29), the hit FIFO (R175), the peer table (R94) and the later-cause list (R17). -/
def segmentPlaces : Nat := 32
def hitPlaces : Nat := 64
def peerPlaces : Nat := 24
def laterPlaces : Nat := 8

/-- Entries one READ HITS or READ NOTICES removes at most (R176, R191). -/
def readBatch : Nat := 8

/-- The largest age of a contributing peer (R112). -/
def contributingAge : Nat := 2

/-- Samples of a zeroing operation (R147). -/
def zeroingSamples : Nat := 64

/-- The truncation length of a hit, in samples (R169). -/
def hitTruncation : Nat := 65535

/-- FREE VALUE (log 2). Expiries that fall on one bit time are separate events (00, Time) and the manual gives them no
order. The rank of event number k at the nth tick decides it; nothing is known of it. -/
opaque dueRank : Nat → Nat → Nat

end Sys2Proof.Config
end

