-- ==== Sys2Proof/Syntax.lean ====
section
/-! DEFINITION. The commands of the GL40: one constructor of Instr for each row of spec/opcode_table.json, and the
operands they carry. A host command carries the parameters of its message (11.3) at their widths there; an event
carries what the interface hands over at that moment. -/

namespace Sys2Proof

/-- The segment an APPEND carries (11.3). `unknown` is a segment whose kind byte is not RAMP, DWELL or CYCLE, with the
bytes after its flags byte (R30). -/
inductive SegReq where
  | ramp (target rateStep : BitVec 24)
  | dwell (duration : BitVec 32)
  | cycle (mean amplitude : BitVec 24) (quarter : BitVec 16) (count : BitVec 24) (driftWatch : Bool)
  | unknown (kind : Byte) (fields : List Byte)
  deriving DecidableEq, Repr

/-- The response codes (11.1). -/
inductive RespCode where
  | ok | busy | range | full | causes | noId | stale | peerDown | unknown | format
  deriving DecidableEq, Repr

/-- The value of the last stop bit of the characters a FRAME_RECEIVED hands over (R74). -/
inductive StopBit where
  | mark
  | space
  deriving DecidableEq, Repr

/-- The commands: the rows of the table of operations and events. -/
inductive Instr where
  | powerOnReset
  | reset
  | set (setting index : Byte) (value : BitVec 32)
  | get (setting index : Byte)
  | start
  | hold
  | resume
  | unload
  | clear
  | append (segment : SegReq) (inspect : Bool)
  | flush
  | ack (kind index : Byte)
  | ackAll
  | zero (mask : BitVec 32)
  | clearExtremes
  | clearPeak
  | forget (id : Byte)
  | readStatus
  | readCauses
  | readRecords
  | readPeers
  | readStrain
  | readDrift
  | readHits
  | readNotices
  | readLine
  /-- A select that clocks in the bytes `message`, which fail the tests of R186. -/
  | unknownCommand (message : List Byte)
  /-- A select in which the host clocks `bytes` whole bytes (R185). -/
  | pendingResponseRead (bytes : Nat)
  | controlPeriodExpiry
  | loadStale
  | settleTimeExceeded
  | reportPeriodExpiry
  | chatterWindowExpiry
  | rateWindowExpiry
  | hostSilenceExpiry
  | interlockInputChange (line : Fin 4) (isOpen : Bool)
  | debounceExpiry (line : Fin 4)
  | loadSample (value : BitVec 24)
  | displacementSample (value : BitVec 24)
  | strainSample (channel : Fin 32) (value : BitVec 24)
  | envelopeSample (channel : Fin 8) (value : Byte)
  | hitEnd (channel : Fin 8) (value : Byte)
  | lockoutEnd (channel : Fin 8) (value : Byte)
  /-- The characters taken since the line was idle, from the first to the one that ends or breaks the frame, the value
  of the last stop bit, and whether any bit of them was noisy (R71, R74). -/
  | frameReceived (chars : List Byte) (stop : StopBit) (noisy : Bool)
  | breakRecognised
  | receiverHuntResume
  | attemptStart
  | frameSent
  /-- Contention at this bit time of the attempt, counted from 0 at the preamble's first bit (R83). -/
  | contention (bit : Nat)
  | backoffEnd
  | breakEnd
  | falseStart (noisy : Bool)
  | lineReturnsToMark
  deriving DecidableEq, Repr

end Sys2Proof
end

