-- ==== Sys2Proof/Decode.lean ====
section
/-! DEFINITION. The bytes of the two serial interfaces: the CRC (R72), the command messages of the station link (11.3,
R186, R200) and the frames of the hall line (11.2, R73, R75, R199). The opcode table gives no row any bits, so
`decodeTableWord` reads none. -/

namespace Sys2Proof

/-! ## Multi-byte fields, more significant byte first (R198) -/

def bytes2 (v : BitVec 16) : List Byte := [v.extractLsb' 8 8, v.extractLsb' 0 8]

def bytes3 (v : BitVec 24) : List Byte := [v.extractLsb' 16 8, v.extractLsb' 8 8, v.extractLsb' 0 8]

def bytes4 (v : BitVec 32) : List Byte :=
  [v.extractLsb' 24 8, v.extractLsb' 16 8, v.extractLsb' 8 8, v.extractLsb' 0 8]

def join2 (a b : Byte) : BitVec 16 := a ++ b

def join3 (a b c : Byte) : BitVec 24 := a ++ b ++ c

def join4 (a b c d : Byte) : BitVec 32 := a ++ b ++ c ++ d

/-! ## The CRC of R72 -/

/-- One bit into the CRC register: feedback from the most significant bit, generator 0x8005. -/
def crcBit (r : BitVec 16) (b : Bool) : BitVec 16 :=
  if b ^^ r.msb then (r <<< 1) ^^^ 0x8005#16 else r <<< 1

/-- One byte into the register, least significant bit first. -/
def crcByte (r : BitVec 16) (x : Byte) : BitVec 16 :=
  (List.range 8).foldl (fun r i => crcBit r (x.getLsbD i)) r

/-- The CRC of a run of bytes: the register starts at 0xFFFF (R72). -/
def crc (bs : List Byte) : BitVec 16 := bs.foldl crcByte 0xFFFF#16

/-- A run of bytes with its CRC behind it, more significant byte first (R72, R200). -/
def sealed (bs : List Byte) : List Byte := bs ++ bytes2 (crc bs)

/-! ## Command messages (11.3) -/

/-- The flags byte of an APPEND segment: bit 0 inspect, bit 1 drift-watch. -/
def segFlags (inspect driftWatch : Bool) : Byte :=
  (if driftWatch then 2#8 else 0#8) ||| (if inspect then 1#8 else 0#8)

/-- The parameter bytes of an APPEND. -/
def segParams (seg : SegReq) (inspect : Bool) : List Byte :=
  match seg with
  | .ramp target rate => 1#8 :: segFlags inspect false :: (bytes3 target ++ bytes3 rate)
  | .dwell duration => 2#8 :: segFlags inspect false :: bytes4 duration
  | .cycle mean amplitude quarter count watch =>
    3#8 :: segFlags inspect watch :: (bytes3 mean ++ bytes3 amplitude ++ bytes2 quarter ++ bytes3 count)
  | .unknown kind fields => kind :: segFlags inspect false :: fields

/-- The command code of a host command; none for a row that is no host command of 11.3. -/
def commandCode : Instr → Option Byte
  | .set _ _ _ => some 0x01#8
  | .get _ _ => some 0x02#8
  | .start => some 0x10#8
  | .hold => some 0x11#8
  | .resume => some 0x12#8
  | .unload => some 0x13#8
  | .clear => some 0x14#8
  | .append _ _ => some 0x20#8
  | .flush => some 0x21#8
  | .ack _ _ => some 0x30#8
  | .ackAll => some 0x31#8
  | .zero _ => some 0x40#8
  | .clearExtremes => some 0x41#8
  | .clearPeak => some 0x42#8
  | .forget _ => some 0x50#8
  | .readStatus => some 0x60#8
  | .readCauses => some 0x61#8
  | .readRecords => some 0x62#8
  | .readPeers => some 0x63#8
  | .readStrain => some 0x64#8
  | .readDrift => some 0x65#8
  | .readHits => some 0x66#8
  | .readNotices => some 0x67#8
  | .readLine => some 0x68#8
  | .reset => some 0x7F#8
  | _ => none

/-- The parameter bytes of a host command (11.3). -/
def commandParams : Instr → List Byte
  | .set setting index value => setting :: index :: bytes4 value
  | .get setting index => [setting, index]
  | .append seg inspect => segParams seg inspect
  | .ack kind index => [kind, index]
  | .zero mask => bytes4 mask
  | .forget id => [id]
  | _ => []

/-- A message of the station link: length, code, parameters or data, check (11.3, R200). -/
def message (code : Byte) (params : List Byte) : List Byte :=
  sealed (bytes2 (BitVec.ofNat 16 (params.length + 5)) ++ code :: params)

/-- The message by which the host sends a command. -/
def encodeMessage (c : Instr) : Option (List Byte) :=
  (commandCode c).map fun code => message code (commandParams c)

/-- A command without parameters: any parameter is answered FORMAT (R186). -/
def parseNone (c : Instr) (params : List Byte) : Except RespCode Instr :=
  if params.isEmpty then .ok c else .error .format

/-- The segment of an APPEND, its length by its kind (R186, R199); an unknown kind is answered FORMAT (R30). -/
def parseSegment (params : List Byte) : Except RespCode Instr :=
  match params with
  | kind :: flags :: fields =>
    if kind = 1#8 then
      match fields with
      | [a, b, c, d, e, f] => .ok (.append (.ramp (join3 a b c) (join3 d e f)) (flags.getLsbD 0))
      | _ => .error .format
    else if kind = 2#8 then
      match fields with
      | [a, b, c, d] => .ok (.append (.dwell (join4 a b c d)) (flags.getLsbD 0))
      | _ => .error .format
    else if kind = 3#8 then
      match fields with
      | [a, b, c, d, e, f, g, h, i, j, k] =>
        .ok (.append (.cycle (join3 a b c) (join3 d e f) (join2 g h) (join3 i j k) (flags.getLsbD 1)) (flags.getLsbD 0))
      | _ => .error .format
    else .error .format
  | _ => .error .format

/-- The command a code and its parameters name (R186, checks 2 and 3). -/
def parseCommand (code : Byte) (params : List Byte) : Except RespCode Instr :=
  match code.toNat with
  | 0x01 =>
    match params with
    | [n, i, a, b, c, d] => .ok (.set n i (join4 a b c d))
    | _ => .error .format
  | 0x02 =>
    match params with
    | [n, i] => .ok (.get n i)
    | _ => .error .format
  | 0x10 => parseNone .start params
  | 0x11 => parseNone .hold params
  | 0x12 => parseNone .resume params
  | 0x13 => parseNone .unload params
  | 0x14 => parseNone .clear params
  | 0x20 => parseSegment params
  | 0x21 => parseNone .flush params
  | 0x30 =>
    match params with
    | [k, i] => .ok (.ack k i)
    | _ => .error .format
  | 0x31 => parseNone .ackAll params
  | 0x40 =>
    match params with
    | [a, b, c, d] => .ok (.zero (join4 a b c d))
    | _ => .error .format
  | 0x41 => parseNone .clearExtremes params
  | 0x42 => parseNone .clearPeak params
  | 0x50 =>
    match params with
    | [id] => .ok (.forget id)
    | _ => .error .format
  | 0x60 => parseNone .readStatus params
  | 0x61 => parseNone .readCauses params
  | 0x62 => parseNone .readRecords params
  | 0x63 => parseNone .readPeers params
  | 0x64 => parseNone .readStrain params
  | 0x65 => parseNone .readDrift params
  | 0x66 => parseNone .readHits params
  | 0x67 => parseNone .readNotices params
  | 0x68 => parseNone .readLine params
  | 0x7F => parseNone .reset params
  | _ => .error .unknown

/-- The three checks of R186 on the bytes of a message, in their order. -/
def parseMessage (m : List Byte) : Except RespCode Instr :=
  let covered := m.take (m.length - 2)
  match covered with
  | l1 :: l0 :: code :: params =>
    if (join2 l1 l0).toNat ≠ m.length ∨ m.drop (m.length - 2) ≠ bytes2 (crc covered) then .error .format
    else parseCommand code params
  | _ => .error .format

/-! ## Hall line frames (11.2) -/

/-- The payload of a REPORT, as its bytes hold it (R73, R199). -/
structure ReportFields where
  group : Byte
  weight : Byte
  posture : Byte
  flags : Byte
  cause : Byte
  hold : Byte
  progress : BitVec 32
  load : BitVec 24
  deriving DecidableEq, Repr

/-- The payload of a HOLD NOTICE or an UNLOAD NOTICE (R73). -/
structure NoticeFields where
  group : Byte
  hold : Byte
  cause : Byte
  origin : Byte
  deriving DecidableEq, Repr

/-- A frame's kind with its payload. -/
inductive FrameBody where
  | report (r : ReportFields)
  | holdNotice (n : NoticeFields)
  | unloadNotice (n : NoticeFields)
  deriving DecidableEq, Repr

structure Frame where
  source : Byte
  body : FrameBody
  deriving DecidableEq, Repr

/-- The sync byte (R72). -/
def syncByte : Byte := 0x6C#8

def reportPayload (r : ReportFields) : List Byte :=
  [r.group, r.weight, r.posture, r.flags, r.cause, r.hold] ++ bytes4 r.progress ++ bytes3 r.load

def noticePayload (n : NoticeFields) : List Byte := [n.group, n.hold, n.cause, n.origin]

/-- The bytes of a frame from its sync byte to its CRC (R72, R199). -/
def encodeFrame (f : Frame) : List Byte :=
  match f.body with
  | .report r => sealed ([syncByte, 0x31#8, f.source, 13#8] ++ reportPayload r)
  | .holdNotice n => sealed ([syncByte, 0x32#8, f.source, 4#8] ++ noticePayload n)
  | .unloadNotice n => sealed ([syncByte, 0x33#8, f.source, 4#8] ++ noticePayload n)

/-- The fate of a frame that reached its end (R75). -/
inductive FrameVerdict where
  | badCrc
  | badFormat
  | good (f : Frame)
  deriving DecidableEq, Repr

/-- The payload fields of a kind; none where kind or length is wrong (R75, R199). -/
def decodePayload (kind len : Byte) (payload : List Byte) : Option FrameBody :=
  if kind = 0x31#8 ∧ len = 13#8 then
    match payload with
    | [g, w, p, fl, c, h, p3, p2, p1, p0, l2, l1, l0] =>
      some (.report ⟨g, w, p, fl, c, h, join4 p3 p2 p1 p0, join3 l2 l1 l0⟩)
    | _ => none
  else if kind = 0x32#8 ∧ len = 4#8 then
    match payload with
    | [g, h, c, o] => some (.holdNotice ⟨g, h, c, o⟩)
    | _ => none
  else if kind = 0x33#8 ∧ len = 4#8 then
    match payload with
    | [g, h, c, o] => some (.unloadNotice ⟨g, h, c, o⟩)
    | _ => none
  else none

/-- The four tests of R75, in their order: CRC, kind, payload length, source id. -/
def judgeFrame (bytes : List Byte) : FrameVerdict :=
  let covered := bytes.take (bytes.length - 2)
  if bytes.drop (bytes.length - 2) ≠ bytes2 (crc covered) then .badCrc
  else
    match covered with
    | _ :: kind :: source :: len :: payload =>
      match decodePayload kind len payload with
      | some body => if source = 0#8 then .badFormat else .good ⟨source, body⟩
      | none => .badFormat
    | _ => .badFormat

/-- The number of bytes of a frame whose first four characters are in hand, from sync to CRC (R74). -/
def frameLength (chars : List Byte) : Option Nat :=
  match chars with
  | _ :: _ :: _ :: len :: _ => some (len.toNat + 6)
  | _ => none

/-- The bit times an attempt at a frame occupies the line, preamble included (R70). -/
def frameBits (bytes : List Byte) : Nat := 10 * (bytes.length + 1)

/-! ## The opcode table -/

/-- The command a table word spells: no row of spec/opcode_table.json gives bits, so none does. -/
def decodeTableWord (_nbits _w : Nat) : Option Instr := none

end Sys2Proof
end

