-- ==== Sys2Proof/Machine/State.lean ====
section
/-! DEFINITION. The state of one GL40 station: the settings and the eight blocks with everything the rules give them,
the queue of commands that wait, and the state after reset. -/

namespace Sys2Proof.Machine

open Sys2Proof

/-! ## Names the rules write in capitals -/

/-- R1. -/
inductive Posture where
  | idle | run | hold | unload | safe
  deriving DecidableEq, Repr

/-- The class of a cause (R4). -/
inductive Class where
  | report | hold | unload | safe
  deriving DecidableEq, Repr

/-- The latch mode of a cause (R4). -/
inductive Mode where
  | edge | level | follow
  deriving DecidableEq, Repr

/-- The entries of the cause table: each kind with its index (R3). -/
inductive Cause where
  | crack (channel : Fin 8)
  | strain (channel : Fin 32)
  | drift
  | interlock (line : Fin 4)
  | peerHold
  | peerUnload
  | peerLost
  | hallBreak
  | idClash
  | hostSilent
  | following
  | valveSat
  | stroke
  | loadStale
  | program
  | inspect
  | holdCmd
  | unloadCmd
  deriving DecidableEq, Repr

/-- The entry number of a cause in the fixed order of R3. -/
def Cause.number : Cause → Fin 59
  | .crack ch => ⟨ch.val, by omega⟩
  | .strain ch => ⟨8 + ch.val, by omega⟩
  | .drift => 40
  | .interlock l => ⟨41 + l.val, by omega⟩
  | .peerHold => 45
  | .peerUnload => 46
  | .peerLost => 47
  | .hallBreak => 48
  | .idClash => 49
  | .hostSilent => 50
  | .following => 51
  | .valveSat => 52
  | .stroke => 53
  | .loadStale => 54
  | .program => 55
  | .inspect => 56
  | .holdCmd => 57
  | .unloadCmd => 58

/-- The cause entries in table order (R3). -/
def Cause.all : List Cause :=
  (List.finRange 8).map .crack ++ (List.finRange 32).map .strain ++ [.drift] ++ (List.finRange 4).map .interlock ++
    [.peerHold, .peerUnload, .peerLost, .hallBreak, .idClash, .hostSilent, .following, .valveSat, .stroke, .loadStale,
      .program, .inspect, .holdCmd, .unloadCmd]

/-- The action of a strain channel (R135). -/
inductive Action where
  | report | derate | hold | unload
  deriving DecidableEq, Repr

/-- The outcome of an unload (R16, R18). -/
inductive UnloadOutcome where
  | pending | complete | incomplete
  deriving DecidableEq, Repr

/-- The settle state of the loop (R47). -/
inductive Settle where
  | notStarted | testing | ended
  deriving DecidableEq, Repr

/-- The saturation direction: +1, 0 or −1 (R47). -/
inductive SatDir where
  | plus | zero | minus
  deriving DecidableEq, Repr

/-- The band state of a strain channel (R134). -/
inductive Band where
  | disabled | within | above | below | fault
  deriving DecidableEq, Repr

/-- The state of a drift record (R152). -/
inductive DriftState where
  | gathering | watching | noRef
  deriving DecidableEq, Repr

/-- The trip kinds of an alarm latch, in the order tested (R178). -/
inductive Trip where
  | burst | rate | felicity
  deriving DecidableEq, Repr

/-- The kind of a segment (R28), as SEGMENT_DONE names it. -/
inductive SegKind where
  | ramp | dwell | cycle
  deriving DecidableEq, Repr

/-- Why a peer entry was removed (R104, R106, R107). -/
inductive ForgetReason where
  | aged | forget | ownId | ownGroup
  deriving DecidableEq, Repr

/-- Why a zeroing was abandoned (R148). -/
inductive AbandonReason where
  | fault | disabled
  deriving DecidableEq, Repr

/-! ## Settings (R201) -/

/-- R25. -/
structure LineSettings where
  enable : Bool
  cls : Class
  mode : Mode
  hallStop : Bool
  deriving DecidableEq, Repr

/-- R135. -/
structure StrainSettings where
  enable : Bool := false
  scale : Nat := 4096
  negative : Bool := false
  zeroOffset : Int := 0
  upperTrip : Int := 32767
  upperRelease : Int := 32767
  lowerTrip : Int := -32767
  lowerRelease : Int := -32767
  tripCount : Nat := 3
  action : Action := .report
  faultStops : Bool := false
  driftWatch : Bool := false
  deriving DecidableEq, Repr

/-- R165. A burst level of off is none. -/
structure CrackSettings where
  enable : Bool := false
  threshold : Nat := 45
  hdt : Nat := 40
  hlt : Nat := 100
  burst : Option Nat := none
  rateLimit : Nat := 0
  felicityLimit : Nat := 0
  cls : Class := .report
  mask : Bool := false
  mode : Mode := .level
  hallStop : Bool := false
  deriving DecidableEq, Repr

/-- The defaults of the four interlock lines (R25). -/
def defaultLines : Vector LineSettings 4 :=
  #v[⟨true, .safe, .level, false⟩, ⟨true, .hold, .level, false⟩, ⟨true, .unload, .level, true⟩,
    ⟨false, .hold, .level, false⟩]

/-- The settings of the station with their defaults, in the order of R201. -/
structure Settings where
  stationId : Nat := 0
  group : Nat := 0
  weight : Nat := 1
  reportPeriod : Nat := 20
  floor : Int := 0
  ceiling : Int := 0
  unloadFloor : Int := 0
  kp : Nat := 1024
  ki : Nat := 64
  integratorLimit : Nat := 4096
  valveLimit : Nat := 8192
  slewLimit : Nat := 512
  followingLimit : Nat := 20000
  followingCount : Nat := 100
  valveSatLimit : Nat := 250
  valveSatClass : Class := .hold
  strokeMin : Int := -8388607
  strokeMax : Int := 8388607
  staleLimit : Nat := 5
  unloadStep : Nat := 20
  settleBand : Nat := 200
  settleTime : Nat := 10000
  rampStepMax : Nat := 25600
  jumpTolerance : Nat := 1000
  debounceTime : Nat := 10
  interlock : Vector LineSettings 4 := defaultLines
  unloadCmdHallStop : Bool := false
  chatterLimit : Nat := 12
  peerLostLimit : Nat := 10
  forgetLimit : Nat := 500
  peerLostClass : Class := .hold
  shareGain : Nat := 0
  trimLimit : Nat := 20000
  leadLimit : Nat := 32768
  holdRenewTime : Nat := 5
  strain : Vector StrainSettings 32 := Vector.replicate 32 {}
  referenceCycles : Nat := 16
  driftLimit : Nat := 100
  driftCount : Nat := 3
  driftClass : Class := .report
  crack : Vector CrackSettings 8 := Vector.replicate 8 {}
  rateWindow : Nat := 10
  felicityMinPeak : Nat := 10000
  felicityRatio : Nat := 243
  hostSilence : Nat := 0
  hostSilentClass : Class := .hold
  deriving DecidableEq, Repr

/-! ## The posture controller -/

/-- R10. -/
structure Snapshot where
  time : BitVec 32
  load : Int
  target : Int
  progress : BitVec 32
  posture : Posture
  deriving DecidableEq, Repr

/-- A cause entry; its class, mode and hall-stop property are read from the settings at each use (R3, R4, R12). -/
structure CauseEntry where
  condition : Bool := false
  latched : Bool := false
  ackPending : Bool := false
  snapshot : Option Snapshot := none
  deriving DecidableEq, Repr

/-- R14. -/
structure HoldRecord where
  cause : Cause
  time : BitVec 32
  setpoint : Int
  load : Int
  resumeRequired : Bool
  deriving DecidableEq, Repr

/-- R16, R17. -/
structure UnloadRecord where
  cause : Cause
  posture : Posture
  time : BitVec 32
  target : Int
  load : Int
  later : List Cause
  overflow : Nat
  outcome : UnloadOutcome
  deriving DecidableEq, Repr

/-! ## The program unit (R27, R28) -/

/-- The kind of a segment with the fields of its kind (R28). -/
inductive SegBody where
  | ramp (target : Int) (rateStep : Nat)
  | dwell (duration : Nat)
  | cycle (mean : Int) (amplitude quarter count : Nat) (driftWatch : Bool)
  deriving DecidableEq, Repr

structure Segment where
  seq : BitVec 16
  body : SegBody
  inspect : Bool
  clamped : Bool
  deriving DecidableEq, Repr

/-- The generator state of the segment in flight (R28). -/
inductive Generator where
  | ramp (start : Int)
  | dwell (elapsed : Nat)
  | cycle (begun : Bool) (phase done : Nat) (interrupted : Bool)
  deriving DecidableEq, Repr

/-- R27. `flight` is the in-flight marker with the generator state: the head of the queue is in flight exactly while it
is some. The setpoint is in fine units of 1/256 count. -/
structure Program where
  queue : List Segment := []
  flight : Option Generator := none
  lastCompleted : BitVec 16 := 0
  nextToAssign : BitVec 16 := 1
  setpoint : Int := 0
  paced : Bool := false
  starved : Bool := false
  derated : Bool := false
  halfStep : Bool := false
  deriving DecidableEq, Repr

/-! ## The servo loop (R47) -/

structure Servo where
  load : Option Int := none
  loadSeen : Bool := false
  stale : Nat := 5
  peak : Int := -8388607
  displacement : Option Int := none
  target : Int := 0
  error : Int := 0
  integrator : Int := 0
  valve : Int := 0
  satDir : SatDir := .zero
  satCount : Nat := 0
  followCount : Nat := 0
  unloadSetpoint : Int := 0
  settle : Settle := .notStarted
  settleCount : Nat := 0
  deriving DecidableEq, Repr

/-! ## The line controller (R69, R78, R79, R92) -/

/-- The fixed content of a notice in its slot (R73, R78). -/
structure NoticeContent where
  group : Nat
  holdTime : Nat
  cause : Cause
  deriving DecidableEq, Repr

/-- The attempt count and the collision count of a pending slot (R78). -/
structure SlotCounts where
  attempts : Nat := 0
  collisions : Nat := 0
  deriving DecidableEq, Repr

/-- A notice slot: its pending notice with the counts, and the successor kept while a notice is in flight (R80). -/
structure NoticeSlot where
  pending : Option (NoticeContent × SlotCounts) := none
  successor : Option NoticeContent := none
  deriving DecidableEq, Repr

/-- The slots in the order of preference of R79. -/
inductive SlotName where
  | unload | hold | report
  deriving DecidableEq, Repr

/-- An attempt on the line: its slot, that slot's counts at the attempt start, the bytes driven, and the bit time
reached (R70, R80, R83). -/
structure Flight where
  slot : SlotName
  counts : SlotCounts
  bytes : List Byte
  bit : Nat
  deriving DecidableEq, Repr

/-- The state of the transmitter (R79), with the attempt in SENDING and the bit time reached in BREAK. -/
inductive Tx where
  | quiet
  | defer
  | sending (f : Flight)
  | backoff
  | breaking (bit : Nat)
  deriving DecidableEq, Repr

/-- The receiver hunts for a start bit and takes characters, or waits for 10 idle bit times before it hunts (R71, R74,
R76). -/
inductive Rx where
  | hunting
  | waiting
  deriving DecidableEq, Repr

/-- A frame in reception: the characters taken whole, and the bits of the character in progress from its start bit on,
true for space (R71, R74). -/
structure Reception where
  chars : List Byte := []
  bits : List Bool := []
  deriving DecidableEq, Repr

/-- One bit time of the line as the other drivers make it (R69, R71): whether one of them is active, whether the line
falls to space within the bit time, and the receiver's three samples about its middle, true for space. -/
structure LineBit where
  carrier : Bool := false
  falls : Bool := false
  first : Bool := false
  second : Bool := false
  third : Bool := false
  deriving DecidableEq, Repr

structure Line where
  unloadSlot : NoticeSlot := {}
  holdSlot : NoticeSlot := {}
  reportSlot : Option SlotCounts := none
  tx : Tx := .quiet
  /-- Bit times of back-off left to wait; counted on through a break (R84, R88). -/
  wait : Nat := 0
  generator : BitVec 16 := 0
  rx : Rx := .hunting
  /-- The frame in reception while the receiver hunts (R74). -/
  taking : Option Reception := none
  idleCount : Nat := 0
  spaceCount : Nat := 0
  /-- A frame ended by a stop bit at space whose run of space has not yet ended (R74, R90). -/
  framingPending : Bool := false
  noise : Bool := false
  framing : Bool := false
  crcError : Bool := false
  formatError : Bool := false
  lateCollision : Bool := false
  dropped : Bool := false
  breakHeard : Bool := false
  /-- The outgoing hold time and the demand cause (R111, R121, R122). -/
  holdTime : Nat := 0
  demandCause : Option Cause := none
  /-- The level of the other drivers and whether one of them is active, at the last bit time or as the last line event
  left them (R69; log 6). -/
  space : Bool := false
  carrier : Bool := false
  /-- The inputs of the bit times to come, and whether the last bit time was read from them (R69; log 6). -/
  heard : List LineBit := []
  tapped : Bool := false
  deriving DecidableEq, Repr

/-! ## The peer table (R94, R95) -/

structure Peer where
  id : Nat
  group : Nat
  weight : Nat
  posture : Posture
  paced : Bool
  starved : Bool
  derated : Bool
  firstCause : Nat
  holdCount : Nat
  progress : BitVec 32
  load : Int
  age : Nat
  lost : Bool
  chatterCount : Nat
  chattering : Bool
  deriving DecidableEq, Repr

structure Peers where
  entries : List Peer := []
  refusedId : Option Nat := none
  refusals : Nat := 0
  trim : Int := 0
  deriving DecidableEq, Repr

/-! ## The strain unit (R134, R152) -/

/-- R146. -/
structure Zeroing where
  count : Nat := 0
  sum : Int := 0
  deriving DecidableEq, Repr

/-- R134. The extremes are the maximum and the minimum. -/
structure StrainChannel where
  band : Band := .disabled
  last : Option Int := none
  clampFlag : Bool := false
  aboveCount : Nat := 0
  belowCount : Nat := 0
  extremes : Option (Int × Int) := none
  zeroing : Option Zeroing := none
  deriving DecidableEq, Repr

/-- R152. The cycle values are the cycle maximum and the cycle minimum. -/
structure DriftRecord where
  state : DriftState := .gathering
  sum : Nat := 0
  gathered : Nat := 0
  reference : Option Nat := none
  cycle : Option (Int × Int) := none
  lastRange : Option Nat := none
  lastInterrupted : Bool := false
  lastDrift : Option Int := none
  excess : Nat := 0
  deriving DecidableEq, Repr

/-- The last close taken (R152). -/
structure CycleClose where
  seq : BitVec 16
  index : Nat
  interrupted : Bool
  deriving DecidableEq, Repr

structure Strain where
  channels : Vector StrainChannel 32 := Vector.replicate 32 {}
  derateDemand : Bool := false
  drift : Vector DriftRecord 32 := Vector.replicate 32 {}
  watched : Option (BitVec 16) := none
  lastClose : Option CycleClose := none
  deriving DecidableEq, Repr

/-! ## The crack unit (R164) -/

/-- The hit in progress (R168). -/
structure Hit where
  startTime : BitVec 32
  load : Int
  peakLoad : Int
  peak : Nat
  rise : Nat
  count : Nat
  duration : Nat
  sinceCrossing : Nat
  below : Bool
  deriving DecidableEq, Repr

/-- The detector state (R164), with the hit in progress in IN_HIT and the lockout remaining in LOCKOUT. -/
inductive Detector where
  | disabled
  | quiet
  | inHit (h : Hit)
  | lockout (remaining : Nat)
  | faulted
  deriving DecidableEq, Repr

/-- R179. The three Booleans are the kinds set. -/
structure Alarm where
  latched : Bool := false
  burst : Bool := false
  rate : Bool := false
  felicity : Bool := false
  firstKind : Option Trip := none
  firstTime : Option (BitVec 32) := none
  condition : Bool := false
  ackPending : Bool := false
  deriving DecidableEq, Repr

structure CrackChannel where
  detector : Detector := .disabled
  windowHits : Nat := 0
  windowFelicity : Nat := 0
  closedHits : Nat := 0
  closedFelicity : Nat := 0
  alarm : Alarm := {}
  deriving DecidableEq, Repr

/-- R172. -/
structure HitRecord where
  channel : Fin 8
  startTime : BitVec 32
  duration : Nat
  peak : Nat
  rise : Nat
  count : Nat
  load : Int
  felicity : Bool
  truncated : Bool
  gap : Nat
  deriving DecidableEq, Repr

structure Crack where
  channels : Vector CrackChannel 8 := Vector.replicate 8 {}
  fifo : List HitRecord := []
  gap : Nat := 0
  deriving DecidableEq, Repr

/-! ## The frame ports (R24) -/

/-- An interlock line: its input pin, its debounced level, and the µs left of its timer while that runs. -/
structure PortLine where
  inputOpen : Bool := false
  debouncedOpen : Bool := false
  timer : Option Nat := none
  deriving DecidableEq, Repr

/-! ## The link port (R184) -/

/-- The notices of R190 with the fields they carry. -/
inductive Notice where
  | posture (previous next : Posture) (cause : Option Cause) (outcome : Option UnloadOutcome)
  | causeLatched (cause : Cause) (cls : Class)
  | causeCleared (cause : Cause)
  | segmentDone (seq : BitVec 16) (kind : SegKind) (skipped : Bool)
  | starved (lastCompleted : BitVec 16)
  | peerLearnt (id group weight : Nat)
  | peerRefused (id count : Nat)
  | peerLostId (id group : Nat) (posture : Posture)
  | peerBack (id : Nat)
  | peerChanged (id oldGroup newGroup oldWeight newWeight : Nat)
  | peerForgotten (id : Nat) (reason : ForgetReason)
  | zeroDone (channel : Fin 32) (offset : Int)
  | zeroAbandoned (channel : Fin 32) (reason : AbandonReason) (samples : Nat)
  | driftRef (channel : Fin 32) (reference gathered : Nat) (seq : BitVec 16) (index : Nat)
  | noRef (channel : Fin 32) (gathered : Nat) (seq : BitVec 16) (index : Nat)
  | hitsWaiting (channel : Fin 8)
  | crackAlarm (channel : Fin 8) (kind : Trip) (time : BitVec 32)
  | crackSensorFault (channel : Fin 8) (time : BitVec 32) (discarded : Bool)
  | overflow (lost : Nat) (time : BitVec 32)
  deriving DecidableEq, Repr

structure NoticeEntry where
  time : BitVec 32
  notice : Notice
  deriving DecidableEq, Repr

/-- R193, with the µs left while RUNNING. -/
inductive SilenceTimer where
  | stopped
  | running (left : Nat)
  | expired
  deriving DecidableEq, Repr

/-- What the host does on its lines of the station link (R185): it asserts select, clocks one bit in on its data line,
releases select, or leaves them as they are for one bit time of the station (log 41). -/
inductive HostEdge where
  | select
  | clock (bit : Bool)
  | release
  | pause
  deriving DecidableEq, Repr

/-- R184. The phase is RESPONSE exactly while a response is pending. `sent` is the model's record of the bytes the
GL40 clocked out in the last select (log 5). -/
structure Link where
  response : Option (List Byte) := none
  notices : List NoticeEntry := []
  silence : SilenceTimer := .stopped
  sent : List Byte := []
  /-- The select line as the host holds it, true while asserted, and the bits clocked in since it was asserted, the first
  first (R185). -/
  select : Bool := false
  bits : List Bool := []
  /-- What the host does next on its lines (R185; log 41). -/
  edges : List HostEdge := []
  deriving DecidableEq, Repr

/-- The µs left of the timers that run at all times: control period, own report period, chatter window, rate window
(00, Time; R89, R103, R177). -/
structure Timers where
  control : Nat := 1000
  report : Nat := 20000
  chatter : Nat := 100000
  rateWindow : Nat := 1000000
  deriving DecidableEq, Repr

/-! ## The station -/

/-- The cause table after reset: every entry clear, every condition false but LOAD_STALE's (R3). -/
def resetCauses : Vector CauseEntry 59 :=
  (Vector.replicate 59 {}).set Cause.loadStale.number { condition := true }

structure State where
  time : BitVec 32 := 0
  settings : Settings := {}
  posture : Posture := .idle
  causes : Vector CauseEntry 59 := resetCauses
  holdRecord : Option HoldRecord := none
  unloadRecord : Option UnloadRecord := none
  program : Program := {}
  servo : Servo := {}
  line : Line := {}
  peers : Peers := {}
  strain : Strain := {}
  crack : Crack := {}
  ports : Vector PortLine 4 := Vector.replicate 4 {}
  link : Link := {}
  timers : Timers := {}
  /-- The model's own counter behind the free order of simultaneous expiries (log 2). -/
  draws : Nat := 0
  /-- The commands that wait, first in first out. -/
  pending : List Instr := []
  deriving DecidableEq, Repr

/-- The station right after reset: every block in the state after reset of its chapter (R197). -/
def State.reset : State := {}

/-- Reasons a step can stop with a fault. There is none: the manual gives every event an effect, so this type has no
constructor and no step faults. -/
inductive Fault where
  deriving DecidableEq, Repr

/-- Reasons a step is refused. -/
inductive Refusal where
  /-- Raised by exec for a row that has no meaning yet. Safe: the machine stops where the hardware goes on. No arm of
  this model uses it. -/
  | notModelled (mnemonic : String)
  deriving DecidableEq, Repr

/-- The three outcomes of a step of this machine. -/
abbrev Outcome := Host.Outcome State Fault Refusal

end Sys2Proof.Machine
end

