-- ==== Sys2Proof/Machine/Operands.lean ====
section
/-! DEFINITION. The operand forms: signed and rounded arithmetic, sample values, the segment an APPEND carries brought
into range, and the codes in which settings are carried (00 Rounding and limiting; R31, R188, R201). -/

namespace Sys2Proof.Machine

open Sys2Proof

/-! ## Arithmetic -/

/-- Clamped to [lo, hi]: first raised to lo, then lowered to hi (00; R31 for lo above hi). -/
def clampTo (lo hi v : Int) : Int := min (max v lo) hi

/-- A quotient rounded to the nearest integer, halves away from zero; the divisor is positive (00). -/
def roundDiv (a b : Int) : Int :=
  if a < 0 then -((2 * (-a) + b) / (2 * b)) else (2 * a + b) / (2 * b)

/-- A count that stops at its largest value. -/
def saturate (top n : Nat) : Nat := min n top

/-! ## Samples -/

/-- The value of a load, displacement or raw strain sample; none for the fault code (00). -/
def sampleValue (v : BitVec 24) : Option Int :=
  if v.toInt = Config.faultCode then none else some v.toInt

/-! ## Segments (R31) -/

/-- The largest amplitude that keeps mean ± amplitude inside [floor, ceiling], 0 where floor exceeds ceiling (R31). -/
def amplitudeRoom (st : Settings) (mean : Int) : Int :=
  if st.floor > st.ceiling then 0 else min (mean - st.floor) (st.ceiling - mean)

/-- The fields of a segment brought into range against the settings in force (R31). -/
def clampBody (st : Settings) : SegBody → SegBody
  | .ramp target rate => .ramp (clampTo st.floor st.ceiling target) (min (max rate 1) st.rampStepMax)
  | .dwell duration => .dwell (min (max duration 1) 2147483647)
  | .cycle mean amplitude quarter count watch =>
    let m := clampTo st.floor st.ceiling mean
    .cycle m (min (amplitude : Int) (amplitudeRoom st m)).toNat (min (max quarter 1) 16383)
      (min (max count 1) 16777215) watch

/-- The fields of a segment as its APPEND carries them; none for a kind that is not RAMP, DWELL or CYCLE (R30). -/
def requestBody : SegReq → Option SegBody
  | .ramp target rate => some (.ramp target.toInt rate.toNat)
  | .dwell duration => some (.dwell duration.toNat)
  | .cycle mean amplitude quarter count watch =>
    some (.cycle mean.toInt amplitude.toNat quarter.toNat count.toNat watch)
  | .unknown _ _ => none

/-- A held segment clamped against the settings in force; a change sets its clamped flag, which stays set (R32). -/
def reclamp (st : Settings) (seg : Segment) : Segment :=
  { seg with body := clampBody st seg.body, clamped := seg.clamped || decide (clampBody st seg.body ≠ seg.body) }

def SegBody.kind : SegBody → SegKind
  | .ramp _ _ => .ramp
  | .dwell _ => .dwell
  | .cycle _ _ _ _ _ => .cycle

/-! ## Codes of settings (11.1, R201) -/

def Class.code : Class → Nat
  | .report => 0 | .hold => 1 | .unload => 2 | .safe => 3

def Class.ofCode (v : Int) : Class :=
  if v = 1 then .hold else if v = 2 then .unload else if v = 3 then .safe else .report

def Mode.code : Mode → Nat
  | .edge => 0 | .level => 1 | .follow => 2

def Mode.ofCode (v : Int) : Mode :=
  if v = 1 then .level else if v = 2 then .follow else .edge

def Action.code : Action → Nat
  | .report => 0 | .derate => 1 | .hold => 2 | .unload => 3

def Action.ofCode (v : Int) : Action :=
  if v = 1 then .derate else if v = 2 then .hold else if v = 3 then .unload else .report

def boolCode (b : Bool) : Int := if b then 1 else 0

def boolOfCode (v : Int) : Bool := v ≠ 0

/-- A value of the range [lo, hi], both ends included. -/
def within (lo hi v : Int) : Bool := lo ≤ v && v ≤ hi

/-- The setting's indexes, from 0, and the values in its range (R201; steps 1 and 2 of R188). None where the number
names no setting. -/
def settingRange (number : Nat) : Option (Nat × (Int → Bool)) :=
  match number with
  | 1 | 2 => some (1, within 0 255)
  | 3 => some (1, within 1 255)
  | 4 => some (1, within 5 200)
  | 5 | 6 | 7 => some (1, within (-8388607) 8388607)
  | 8 | 9 => some (1, within 0 65535)
  | 10 => some (1, within 0 32767)
  | 11 => some (1, within 1 32767)
  | 12 => some (1, within 1 65535)
  | 13 => some (1, within 0 1048575)
  | 14 | 15 => some (1, within 1 65535)
  | 16 => some (1, within 1 2)
  | 17 | 18 => some (1, within (-8388607) 8388607)
  | 19 => some (1, within 1 255)
  | 20 => some (1, within 1 65535)
  | 21 => some (1, within 0 65535)
  | 22 => some (1, within 1 65535)
  | 23 => some (1, within 1 16777215)
  | 24 => some (1, within 0 8388607)
  | 25 => some (1, within 1 100)
  | 26 => some (4, within 0 1)
  | 27 => some (4, within 1 3)
  | 28 | 29 => some (4, within 0 1)
  | 30 => some (1, within 0 1)
  | 31 => some (1, within 0 255)
  | 32 => some (1, within 1 255)
  | 33 => some (1, within 0 65535)
  | 34 => some (1, within 1 2)
  | 35 => some (1, within 0 255)
  | 36 => some (1, within 0 1048575)
  | 37 => some (1, within 0 2147483647)
  | 38 => some (1, within 2 255)
  | 39 => some (32, within 0 1)
  | 40 => some (32, within 1 65535)
  | 41 => some (32, within 0 1)
  | 42 => some (32, within (-8388607) 8388607)
  | 43 | 44 | 45 | 46 => some (32, within (-32767) 32767)
  | 47 => some (32, within 1 15)
  | 48 => some (32, within 0 3)
  | 49 | 50 => some (32, within 0 1)
  | 51 => some (1, within 1 255)
  | 52 => some (1, within 0 9999)
  | 53 => some (1, within 1 255)
  | 54 => some (1, within 0 2)
  | 55 => some (8, within 0 1)
  | 56 => some (8, within 20 99)
  | 57 => some (8, within 1 65535)
  | 58 => some (8, within 0 65535)
  | 59 => some (8, fun v => v = 0 || within 21 100 v)
  | 60 | 61 => some (8, within 0 65535)
  | 62 => some (8, within 0 2)
  | 63 | 64 | 65 => some (8, within 0 1)
  | 66 => some (1, within 1 100)
  | 67 => some (1, within 0 8388607)
  | 68 => some (1, within 128 255)
  | 69 => some (1, fun v => v = 0 || within 10 10000 v)
  | 70 => some (1, within 1 2)
  | _ => none

/-! ## Settings by number (R188, R189, R201) -/

def readLineSetting (number : Nat) (l : LineSettings) : Int :=
  match number with
  | 26 => boolCode l.enable
  | 27 => l.cls.code
  | 28 => l.mode.code
  | _ => boolCode l.hallStop

def readStrainSetting (number : Nat) (c : StrainSettings) : Int :=
  match number with
  | 39 => boolCode c.enable
  | 40 => c.scale
  | 41 => boolCode c.negative
  | 42 => c.zeroOffset
  | 43 => c.upperTrip
  | 44 => c.upperRelease
  | 45 => c.lowerTrip
  | 46 => c.lowerRelease
  | 47 => c.tripCount
  | 48 => c.action.code
  | 49 => boolCode c.faultStops
  | _ => boolCode c.driftWatch

def readCrackSetting (number : Nat) (c : CrackSettings) : Int :=
  match number with
  | 55 => boolCode c.enable
  | 56 => c.threshold
  | 57 => c.hdt
  | 58 => c.hlt
  | 59 => c.burst.getD 0
  | 60 => c.rateLimit
  | 61 => c.felicityLimit
  | 62 => c.cls.code
  | 63 => boolCode c.mask
  | 64 => c.mode.code
  | _ => boolCode c.hallStop

/-- The value of a setting as GET carries it (R189, R201); 0 where number or index names none. -/
def readSetting (number index : Nat) (st : Settings) : Int :=
  if 26 ≤ number ∧ number ≤ 29 then
    if h : index < 4 then readLineSetting number st.interlock[index] else 0
  else if 39 ≤ number ∧ number ≤ 50 then
    if h : index < 32 then readStrainSetting number st.strain[index] else 0
  else if 55 ≤ number ∧ number ≤ 65 then
    if h : index < 8 then readCrackSetting number st.crack[index] else 0
  else
    match number with
    | 1 => st.stationId
    | 2 => st.group
    | 3 => st.weight
    | 4 => st.reportPeriod
    | 5 => st.floor
    | 6 => st.ceiling
    | 7 => st.unloadFloor
    | 8 => st.kp
    | 9 => st.ki
    | 10 => st.integratorLimit
    | 11 => st.valveLimit
    | 12 => st.slewLimit
    | 13 => st.followingLimit
    | 14 => st.followingCount
    | 15 => st.valveSatLimit
    | 16 => st.valveSatClass.code
    | 17 => st.strokeMin
    | 18 => st.strokeMax
    | 19 => st.staleLimit
    | 20 => st.unloadStep
    | 21 => st.settleBand
    | 22 => st.settleTime
    | 23 => st.rampStepMax
    | 24 => st.jumpTolerance
    | 25 => st.debounceTime
    | 30 => boolCode st.unloadCmdHallStop
    | 31 => st.chatterLimit
    | 32 => st.peerLostLimit
    | 33 => st.forgetLimit
    | 34 => st.peerLostClass.code
    | 35 => st.shareGain
    | 36 => st.trimLimit
    | 37 => st.leadLimit
    | 38 => st.holdRenewTime
    | 51 => st.referenceCycles
    | 52 => st.driftLimit
    | 53 => st.driftCount
    | 54 => st.driftClass.code
    | 66 => st.rateWindow
    | 67 => st.felicityMinPeak
    | 68 => st.felicityRatio
    | 69 => st.hostSilence
    | 70 => st.hostSilentClass.code
    | _ => 0

def writeLineSetting (number : Nat) (v : Int) (l : LineSettings) : LineSettings :=
  match number with
  | 26 => { l with enable := boolOfCode v }
  | 27 => { l with cls := Class.ofCode v }
  | 28 => { l with mode := Mode.ofCode v }
  | _ => { l with hallStop := boolOfCode v }

def writeStrainSetting (number : Nat) (v : Int) (c : StrainSettings) : StrainSettings :=
  match number with
  | 39 => { c with enable := boolOfCode v }
  | 40 => { c with scale := v.toNat }
  | 41 => { c with negative := boolOfCode v }
  | 42 => { c with zeroOffset := v }
  | 43 => { c with upperTrip := v }
  | 44 => { c with upperRelease := v }
  | 45 => { c with lowerTrip := v }
  | 46 => { c with lowerRelease := v }
  | 47 => { c with tripCount := v.toNat }
  | 48 => { c with action := Action.ofCode v }
  | 49 => { c with faultStops := boolOfCode v }
  | _ => { c with driftWatch := boolOfCode v }

def writeCrackSetting (number : Nat) (v : Int) (c : CrackSettings) : CrackSettings :=
  match number with
  | 55 => { c with enable := boolOfCode v }
  | 56 => { c with threshold := v.toNat }
  | 57 => { c with hdt := v.toNat }
  | 58 => { c with hlt := v.toNat }
  | 59 => { c with burst := if v = 0 then none else some v.toNat }
  | 60 => { c with rateLimit := v.toNat }
  | 61 => { c with felicityLimit := v.toNat }
  | 62 => { c with cls := Class.ofCode v }
  | 63 => { c with mask := boolOfCode v }
  | 64 => { c with mode := Mode.ofCode v }
  | _ => { c with hallStop := boolOfCode v }

/-- The settings with one of them written (R188); unchanged where number or index names none. -/
def writeSetting (number index : Nat) (v : Int) (st : Settings) : Settings :=
  if 26 ≤ number ∧ number ≤ 29 then
    if h : index < 4 then
      { st with interlock := st.interlock.set index (writeLineSetting number v st.interlock[index]) }
    else st
  else if 39 ≤ number ∧ number ≤ 50 then
    if h : index < 32 then { st with strain := st.strain.set index (writeStrainSetting number v st.strain[index]) }
    else st
  else if 55 ≤ number ∧ number ≤ 65 then
    if h : index < 8 then { st with crack := st.crack.set index (writeCrackSetting number v st.crack[index]) } else st
  else
    match number with
    | 1 => { st with stationId := v.toNat }
    | 2 => { st with group := v.toNat }
    | 3 => { st with weight := v.toNat }
    | 4 => { st with reportPeriod := v.toNat }
    | 5 => { st with floor := v }
    | 6 => { st with ceiling := v }
    | 7 => { st with unloadFloor := v }
    | 8 => { st with kp := v.toNat }
    | 9 => { st with ki := v.toNat }
    | 10 => { st with integratorLimit := v.toNat }
    | 11 => { st with valveLimit := v.toNat }
    | 12 => { st with slewLimit := v.toNat }
    | 13 => { st with followingLimit := v.toNat }
    | 14 => { st with followingCount := v.toNat }
    | 15 => { st with valveSatLimit := v.toNat }
    | 16 => { st with valveSatClass := Class.ofCode v }
    | 17 => { st with strokeMin := v }
    | 18 => { st with strokeMax := v }
    | 19 => { st with staleLimit := v.toNat }
    | 20 => { st with unloadStep := v.toNat }
    | 21 => { st with settleBand := v.toNat }
    | 22 => { st with settleTime := v.toNat }
    | 23 => { st with rampStepMax := v.toNat }
    | 24 => { st with jumpTolerance := v.toNat }
    | 25 => { st with debounceTime := v.toNat }
    | 30 => { st with unloadCmdHallStop := boolOfCode v }
    | 31 => { st with chatterLimit := v.toNat }
    | 32 => { st with peerLostLimit := v.toNat }
    | 33 => { st with forgetLimit := v.toNat }
    | 34 => { st with peerLostClass := Class.ofCode v }
    | 35 => { st with shareGain := v.toNat }
    | 36 => { st with trimLimit := v.toNat }
    | 37 => { st with leadLimit := v.toNat }
    | 38 => { st with holdRenewTime := v.toNat }
    | 51 => { st with referenceCycles := v.toNat }
    | 52 => { st with driftLimit := v.toNat }
    | 53 => { st with driftCount := v.toNat }
    | 54 => { st with driftClass := Class.ofCode v }
    | 66 => { st with rateWindow := v.toNat }
    | 67 => { st with felicityMinPeak := v.toNat }
    | 68 => { st with felicityRatio := v.toNat }
    | 69 => { st with hostSilence := v.toNat }
    | 70 => { st with hostSilentClass := Class.ofCode v }
    | _ => st

/-- Step 3 of R188: the value agrees with the other setting as it stands (R135, R165). -/
def agrees (number index : Nat) (v : Int) (st : Settings) : Bool :=
  if 43 ≤ number ∧ number ≤ 46 then
    if h : index < 32 then
      let c := writeStrainSetting number v st.strain[index]
      if number ≤ 44 then c.upperRelease ≤ c.upperTrip else c.lowerTrip ≤ c.lowerRelease
    else true
  else if number = 56 ∨ number = 59 then
    if h : index < 8 then
      let c := writeCrackSetting number v st.crack[index]
      match c.burst with
      | none => true
      | some b => c.threshold < b
    else true
  else true

/-- The tests of R188 on setting, index and value, all answered RANGE. -/
def settingAllowed (number index : Nat) (v : Int) (st : Settings) : Bool :=
  match settingRange number with
  | none => false
  | some (indexes, inRange) => decide (index < indexes) && inRange v && agrees number index v st

/-- The test of R189 on setting and index. -/
def settingExists (number index : Nat) : Bool :=
  match settingRange number with
  | none => false
  | some (indexes, _) => decide (index < indexes)

end Sys2Proof.Machine
end

