-- ==== Sys2Proof/Machine/Flags.lean ====
section
/-! DEFINITION. Everything the station computes from its state without changing it: the class, latch mode and hall-stop
property of a cause entry, break-due, the conditions the blocks raise, progress, the exchange phase and the attention
line. -/

namespace Sys2Proof.Machine

open Sys2Proof

/-! ## The cause table -/

def State.entry (s : State) (c : Cause) : CauseEntry := s.causes[c.number]

/-- The class of an entry under the present settings (R4). -/
def classOf (st : Settings) : Cause → Class
  | .crack ch => st.crack[ch].cls
  | .strain ch =>
    match st.strain[ch].action with
    | .report | .derate => .report
    | .hold => .hold
    | .unload => .unload
  | .drift => st.driftClass
  | .interlock l => st.interlock[l].cls
  | .peerHold => .hold
  | .peerUnload => .unload
  | .peerLost => st.peerLostClass
  | .hallBreak => .unload
  | .idClash => .unload
  | .hostSilent => st.hostSilentClass
  | .following => .unload
  | .valveSat => st.valveSatClass
  | .stroke => .unload
  | .loadStale => .safe
  | .program => .hold
  | .inspect => .hold
  | .holdCmd => .hold
  | .unloadCmd => .unload

/-- The latch mode of an entry under the present settings (R4). -/
def modeOf (st : Settings) : Cause → Mode
  | .crack ch => st.crack[ch].mode
  | .interlock l => st.interlock[l].mode
  | .peerHold => .follow
  | .strain _ | .drift | .peerUnload | .peerLost | .hostSilent | .stroke | .loadStale => .level
  | .hallBreak | .idClash | .following | .valveSat | .program | .inspect | .holdCmd | .unloadCmd => .edge

/-- The hall-stop property of an entry under the present settings (R12). -/
def hallStopOf (st : Settings) : Cause → Bool
  | .crack ch => st.crack[ch].hallStop && decide (st.crack[ch].cls = .unload)
  | .interlock l => st.interlock[l].hallStop
  | .unloadCmd => st.unloadCmdHallStop
  | _ => false

/-- Some entry that meets the test is latched. -/
def State.anyLatched (s : State) (test : Cause → Bool) : Bool :=
  Cause.all.any fun c => test c && (s.entry c).latched

/-- The break-due state the posture controller holds for the line controller (R12). -/
def State.breakDue (s : State) : Bool := s.anyLatched (hallStopOf s.settings)

/-- Some HOLD-class entry is latched (R15, R22). -/
def State.holdLatched (s : State) : Bool := s.anyLatched fun c => decide (classOf s.settings c = .hold)

/-- Some HOLD-class entry other than PEER_HOLD is latched (R121). -/
def State.ownHoldLatched (s : State) : Bool :=
  s.anyLatched fun c => decide (classOf s.settings c = .hold) && decide (c ≠ .peerHold)

/-- Some entry of class HOLD, UNLOAD or SAFE other than PEER_HOLD is latched (R20, check 5). -/
def State.startBlocked (s : State) : Bool :=
  s.anyLatched fun c => decide (classOf s.settings c ≠ .report) && decide (c ≠ .peerHold)

/-- Some entry of class UNLOAD or SAFE other than DRIFT is latched (R23). -/
def State.clearBlocked (s : State) : Bool :=
  s.anyLatched fun c =>
    (decide (classOf s.settings c = .unload) || decide (classOf s.settings c = .safe)) && decide (c ≠ .drift)

/-- The resume-required flag of the hold record (R14). -/
def State.resumeRequired (s : State) : Bool :=
  match s.holdRecord with
  | some r => r.resumeRequired
  | none => false

/-! ## Values other blocks read -/

/-- The latest load, or the fault code where none has arrived since reset (R47, R67). -/
def State.loadNow (s : State) : Int := s.servo.load.getD Config.faultCode

/-- The program setpoint in whole counts (R27). -/
def Program.counts (p : Program) : Int := p.setpoint.tdiv 256

/-- The fraction of the segment in flight, 0 to 65,535 (R45). -/
def fraction (setpoint : Int) (body : SegBody) (g : Generator) : Nat :=
  match body, g with
  | .ramp target _, .ramp start =>
    if start = target * 256 then 0
    else 65535 * (setpoint - start).natAbs / (target * 256 - start).natAbs
  | .dwell duration, .dwell elapsed => 65535 * elapsed / duration
  | .cycle _ _ q n _, .cycle true phase done _ => 65535 * (done * (4 * q) + phase) / (n * (4 * q))
  | _, _ => 0

/-- The progress (R45). -/
def Program.progress (p : Program) : BitVec 32 :=
  match p.queue, p.flight with
  | seg :: _, some g => BitVec.ofNat 32 (seg.seq.toNat * 65536 + fraction p.setpoint seg.body g)
  | _, _ => BitVec.ofNat 32 ((p.lastCompleted.toNat + 1) * 65536)

/-! ## Conditions -/

/-- LOAD_STALE (R50). -/
def loadStaleCondition (st : Settings) (v : Servo) : Bool := v.load.isNone || decide (st.staleLimit ≤ v.stale)

/-- STROKE (R52). -/
def strokeCondition (st : Settings) (v : Servo) : Bool :=
  match v.displacement with
  | none => false
  | some d => decide (d < st.strokeMin) || decide (st.strokeMax < d)

/-- FOLLOWING (R59). -/
def followingCondition (st : Settings) (v : Servo) : Bool := decide (st.followingCount ≤ v.followCount)

/-- VALVE_SAT (R57). -/
def valveSatCondition (st : Settings) (v : Servo) : Bool := decide (st.valveSatLimit ≤ v.satCount)

/-- The band state is ABOVE or BELOW. -/
def Band.tripped : Band → Bool
  | .above | .below => true
  | _ => false

/-- STRAIN of a channel (R142). -/
def strainCondition (cfg : StrainSettings) (ch : StrainChannel) : Bool :=
  cfg.enable && (ch.band.tripped || (decide (ch.band = .fault) && cfg.faultStops))

/-- The derate demand (R143). -/
def derateCondition (st : Settings) (u : Strain) : Bool :=
  (List.finRange 32).any fun i =>
    st.strain[i].enable && decide (st.strain[i].action = .derate) && u.channels[i].band.tripped

/-- A channel is watched while enabled with its drift-watch on (R152). -/
def watchedChannel (cfg : StrainSettings) : Bool := cfg.enable && cfg.driftWatch

/-- DRIFT (R160). -/
def driftCondition (st : Settings) (u : Strain) : Bool :=
  (List.finRange 32).any fun i =>
    watchedChannel st.strain[i] && decide (u.drift[i].state = .watching) && decide (st.driftCount ≤ u.drift[i].excess)

/-- CRACK of a channel (R182). -/
def crackCondition (cfg : CrackSettings) (ch : CrackChannel) : Bool := ch.alarm.latched && !cfg.mask

/-- INTERLOCK of a line (R24). -/
def interlockCondition (cfg : LineSettings) (l : PortLine) : Bool := cfg.enable && l.debouncedOpen

/-- PEER_HOLD (R108). -/
def peerHoldCondition (group : Nat) (es : List Peer) : Bool :=
  es.any fun e => decide (e.group = group) && decide (0 < e.holdCount)

/-- PEER_UNLOAD (R108). -/
def peerUnloadCondition (group : Nat) (es : List Peer) : Bool :=
  es.any fun e => decide (e.group = group) && !e.lost && (decide (e.posture = .unload) || decide (e.posture = .safe))

/-- PEER_LOST (R108). -/
def peerLostCondition (group : Nat) (es : List Peer) : Bool :=
  es.any fun e => decide (e.group = group) && e.lost

/-! ## Line and link -/

/-- Some transmit slot is pending (R79). -/
def Line.anyPending (l : Line) : Bool :=
  l.unloadSlot.pending.isSome || l.holdSlot.pending.isSome || l.reportSlot.isSome

/-- The own driver is active: an attempt or a break is being driven (R70, R88). -/
def Line.driving (l : Line) : Bool :=
  match l.tx with
  | .sending _ | .breaking _ => true
  | _ => false

/-- The exchange phase is RESPONSE (R184, R185). -/
def Link.inResponse (k : Link) : Bool := k.response.isSome

/-- The attention line is asserted (R192). -/
def Link.attention (k : Link) : Bool := !k.notices.isEmpty

end Sys2Proof.Machine
end

