-- ==== Sys2Proof/Machine/Receiver.lean ====
section
/-! DEFINITION. The hall line bit by bit: the level the own driver gives (R70, R88), the three samples of a bit and what
the receiver makes of a bit time (R69, R71, R74, R90). -/

namespace Sys2Proof.Machine

open Sys2Proof

/-! ## The level driven (R70, R88) -/

/-- The level of bit k of a character, true for space: start bit, eight data bits from the least significant, stop bit
(R70). -/
def characterLevel (c : Byte) (k : Nat) : Bool :=
  if k = 0 then true else if k ≤ 8 then !c.getLsbD (k - 1) else false

/-- The level of an attempt at a frame at a bit time, true for space: ten bit times of preamble at mark, then its
characters without a gap (R70). -/
def frameLevel (bytes : List Byte) (bit : Nat) : Bool :=
  if bit < 10 then false
  else
    match bytes[bit / 10 - 1]? with
    | some c => characterLevel c (bit % 10)
    | none => false

/-- The level the own driver gives the line at the present bit time, true for space; none while it is released (R70,
R88). -/
def Line.drivenLevel (l : Line) : Option Bool :=
  match l.tx with
  | .sending f => some (frameLevel f.bytes f.bit)
  | .breaking _ => some true
  | .quiet | .defer | .backoff => none

/-! ## One bit as the receiver reads it (R71) -/

/-- The majority of the three samples, true for space (R71). -/
def LineBit.space (b : LineBit) : Bool := (b.first && b.second) || (b.first && b.third) || (b.second && b.third)

/-- The three samples do not all agree (R71). -/
def LineBit.noisy (b : LineBit) : Bool := b.first != b.second || b.second != b.third

/-- The line is at space at some moment of the bit time, so that after mark it has changed from mark to space (R71). -/
def LineBit.touchesSpace (b : LineBit) : Bool := b.falls || b.first || b.second || b.third

/-- The byte of a character's bits from its start bit on: its data bits, the least significant first, mark for 1
(R70). -/
def takenByte (bits : List Bool) : Byte :=
  BitVec.ofNat 8 (((bits.drop 1).take 8).foldr (fun space n => (if space then 0 else 1) + 2 * n) 0)

/-! ## Taking characters (R74) -/

/-- More characters of the frame are to come: its first is the sync byte, and its length is not reached (R74). -/
def frameOpen (chars : List Byte) : Bool :=
  decide (chars.head? = some syncByte) &&
    (match frameLength chars with
    | some n => decide (chars.length < n)
    | none => true)

/-- A bit time with no frame in reception: after mark, a start bit opens one, and a start bit whose majority reads
mark is a false start (R71). -/
def seekStart (was : Bool) (b : LineBit) : Option Reception × Option Instr :=
  if was || !b.touchesSpace then (none, none)
  else if b.space then (some { bits := [true] }, none)
  else (none, some (.falseStart b.noisy))

/-- A bit time of a frame in reception. The receiver counts a character's bits from its own start bit, which must
stand at the bit time after the previous stop bit; the tenth is the stop bit. The characters are handed over at the
frame's end or at the one that breaks it, with their noise noted already (R71, R74). -/
def takeBit (r : Reception) (space : Bool) : Option Reception × Option Instr :=
  match r.bits with
  | [] => if space then (some { r with bits := [true] }, none) else (none, some (.frameReceived r.chars .mark false))
  | _ :: _ =>
    let bits := r.bits ++ [space]
    if bits.length < 10 then (some { r with bits := bits }, none)
    else
      let chars := r.chars ++ [takenByte bits]
      if space then (none, some (.frameReceived chars .space false))
      else if frameOpen chars then (some { chars := chars }, none)
      else (none, some (.frameReceived chars .mark false))

/-- The receiver's work at a bit time: the frame in reception after it, and the event it brings. None while the own
driver is active or the receiver waits for idle bit times (R74, R76). -/
def Line.receive (l : Line) (b : LineBit) : Option Reception × Option Instr :=
  if l.driving then (none, none)
  else
    match l.rx, l.taking with
    | .waiting, _ => (none, none)
    | .hunting, none => seekStart l.space b
    | .hunting, some r => takeBit r b.space

/-! ## The inputs of a bit time (R69) -/

/-- The line with the inputs of one bit time taken in: level, carrier, noise and the receiver's work. Where no input is
given, the other drivers do what they did (R69, R71; log 6). -/
def Line.hear (l : Line) : Line :=
  match l.heard with
  | [] => { l with tapped := false }
  | b :: rest =>
    { l with
      heard := rest, tapped := true, space := b.space, carrier := b.carrier
      noise := l.noise || (b.noisy && !l.driving), taking := (l.receive b).1 }

/-- Another driver is active at this bit time of the own attempt (R69, R83). -/
def Line.contended (l : Line) : Option Nat :=
  match l.tx, l.heard with
  | .sending f, b :: _ => if b.carrier then some f.bit else none
  | _, _ => none

/-- The line returns to mark at this bit time, behind a stop bit read as space (R74, R90). -/
def Line.markDue (l : Line) : Bool :=
  match l.heard with
  | b :: _ => !l.driving && l.framingPending && !b.space
  | [] => false

/-- The events that the inputs of one bit time bring (R71, R74, R83, R90). -/
def Line.heardEvents (l : Line) : List Instr :=
  (match l.heard with
    | b :: _ => (l.receive b).2.toList
    | [] => []) ++
    (l.contended.map Instr.contention).toList ++ (if l.markDue then [.lineReturnsToMark] else [])

/-! ## Levels after a line event -/

/-- What a line event tells of the other drivers counts where no input of the last bit time tells it (log 6). -/
def Line.told (space carrier : Bool) (l : Line) : Line :=
  if l.tapped then l else { l with space := space, carrier := carrier }

end Sys2Proof.Machine
end

