-- ==== Sys2Proof/Machine/Ops.lean ====
section
/-! DEFINITION. The named operations over the station's state that every block shares: storing a notice, writing a cause
entry, the transmit slots and the hall-stop break, and the program unit's flags at a posture change. -/

namespace Sys2Proof.Machine

open Sys2Proof

/-! ## Notices (R190) -/

/-- One more lost notice in the OVERFLOW entry that stands last (R190). -/
def bumpOverflow (q : List NoticeEntry) : List NoticeEntry :=
  match q.getLast? with
  | some ⟨t, .overflow lost first⟩ => q.dropLast ++ [⟨t, .overflow (saturate 255 (lost + 1)) first⟩]
  | _ => q

/-- The notice queue with a notice handed to it at station time t (R190). -/
def queueNotice (t : BitVec 32) (n : Notice) (q : List NoticeEntry) : List NoticeEntry :=
  if q.length ≤ 30 then q ++ [⟨t, n⟩]
  else if q.length = 31 then q ++ [⟨t, .overflow 1 t⟩]
  else bumpOverflow q

/-- A block hands a notice to the link port (R190). -/
def pushNotice (n : Notice) (s : State) : State :=
  { s with link := { s.link with notices := queueNotice s.time n s.link.notices } }

def pushNotices (ns : List Notice) (s : State) : State := ns.foldl (fun s n => pushNotice n s) s

/-! ## Cause entries -/

def setEntry (c : Cause) (e : CauseEntry) (s : State) : State := { s with causes := s.causes.set c.number e }

/-- The snapshot of R10, taken of the state at the latch. -/
def snapshotOf (s : State) : Snapshot :=
  ⟨s.time, s.loadNow, s.servo.target, s.program.progress, s.posture⟩

/-- A change of an entry's mode to EDGE drops its pending ack (R4). -/
def dropAck (c : Cause) (s : State) : State := setEntry c { s.entry c with ackPending := false } s

/-! ## Transmit slots (R78, R79, R80) -/

/-- The state of a transmitter that neither sends, waits nor breaks (R79). -/
def restTx (id : Nat) (l : Line) : Tx := if id ≠ 0 ∧ l.anyPending then .defer else .quiet

/-- QUIET and DEFER follow the slots; the other states run on (R79). -/
def settleTx (id : Nat) (l : Line) : Line :=
  match l.tx with
  | .quiet | .defer => { l with tx := restTx id l }
  | _ => l

/-- The slot's frame is in flight (R80). -/
def Line.inFlight (l : Line) (n : SlotName) : Bool :=
  match l.tx with
  | .sending f => decide (f.slot = n)
  | _ => false

/-- A notice put into its slot: the pending notice is replaced, counts 0, unless it is in flight, where the new one
becomes the successor (R78, R80). -/
def fillNotice (flying : Bool) (c : NoticeContent) (slot : NoticeSlot) : NoticeSlot :=
  if flying then { slot with successor := some c } else { slot with pending := some (c, {}) }

def placeUnloadNotice (c : NoticeContent) (s : State) : State :=
  { s with
    line := settleTx s.settings.stationId
      { s.line with unloadSlot := fillNotice (s.line.inFlight .unload) c s.line.unloadSlot } }

def placeHoldNotice (c : NoticeContent) (s : State) : State :=
  { s with
    line := settleTx s.settings.stationId
      { s.line with holdSlot := fillNotice (s.line.inFlight .hold) c s.line.holdSlot } }

/-- The report slot at an own report period expiry: filled where the own id is not 0, unchanged where pending (R78). -/
def fillReport (s : State) : State :=
  if s.settings.stationId = 0 then s
  else
    { s with line := settleTx s.settings.stationId { s.line with reportSlot := some (s.line.reportSlot.getD {}) } }

/-- The hold slot emptied, its successor with it (R78, R80). -/
def emptyHoldSlot (s : State) : State :=
  { s with line := settleTx s.settings.stationId { s.line with holdSlot := {} } }

/-- A notice slot when its attempt ends: the successor takes it with counts 0; otherwise the notice leaves it, or stays
with the counts given (R80, R82, R83). -/
def slotAfterAttempt (keep : Option SlotCounts) (slot : NoticeSlot) : NoticeSlot :=
  match slot.successor with
  | some c => { pending := some (c, {}), successor := none }
  | none =>
    match keep with
    | none => { pending := none, successor := none }
    | some counts => { pending := slot.pending.map fun p => (p.1, counts), successor := none }

/-- The report slot when an attempt at it ends. A slot that was emptied meanwhile stays empty, and one filled anew
since, which no attempt has yet counted, is not the frame in flight and stays as it is (log 18). -/
def reportAfterAttempt (keep : Option SlotCounts) : Option SlotCounts → Option SlotCounts
  | some counts => if counts.attempts = 0 then some counts else keep
  | none => none

/-- The slots when the attempt in flight ends; keep holds the counts of a frame that stays in its slot. -/
def endAttempt (slot : SlotName) (keep : Option SlotCounts) (l : Line) : Line :=
  match slot with
  | .unload => { l with unloadSlot := slotAfterAttempt keep l.unloadSlot }
  | .hold => { l with holdSlot := slotAfterAttempt keep l.holdSlot }
  | .report => { l with reportSlot := reportAfterAttempt keep l.reportSlot }

/-- The own driver is released: the receiver waits for 10 idle bit times, and both bit counts stand at 0 (R76, R88,
R90). The count of 0 at the release holds for a sent frame too (log 34). -/
def releaseDriver (l : Line) : Line := { l with rx := .waiting, taking := none, idleCount := 0, spaceCount := 0 }

/-- The own driver becomes active: a frame in reception is discarded without a flag (R76), and so is one already ended
by a stop bit at space that still waits for its flag (log 35). -/
def seizeDriver (l : Line) : Line :=
  { l with rx := .waiting, taking := none, idleCount := 0, spaceCount := 0, framingPending := false }

/-- The slots when a break abandons the attempt in flight: a report is dropped; a notice stays, but is dropped at its
16th attempt (R86, R88). -/
def abandonAttempt (f : Flight) (l : Line) : Line :=
  match f.slot with
  | .report => endAttempt .report none l
  | n =>
    if Config.maxAttempts ≤ f.counts.attempts then { endAttempt n none l with dropped := true }
    else endAttempt n (some f.counts) l

/-- The line with the hall-stop break started at once (R88). -/
def startBreak (l : Line) : Line :=
  match l.tx with
  | .breaking _ => l
  | .sending f => { seizeDriver (abandonAttempt f l) with tx := .breaking 0 }
  | _ => { seizeDriver l with tx := .breaking 0 }

/-- The posture controller asks for a hall-stop break: not kept by a station with id 0, met by a break being driven
(R12, R87, R88). -/
def askBreak (s : State) : State := if s.settings.stationId = 0 then s else { s with line := startBreak s.line }

/-! ## The program unit at posture changes (R34, R40, R43, R44) -/

/-- The begun cycle in flight marked interrupted (R40). -/
def markInterrupted (p : Program) : Program :=
  match p.flight with
  | some (.cycle true phase done _) => { p with flight := some (.cycle true phase done true) }
  | _ => p

/-- A posture change out of RUN clears paced and starved and marks the cycle in flight (R40, R43, R44). -/
def pauseProgram (p : Program) : Program := { markInterrupted p with paced := false, starved := false }

/-- The generator state of a segment taken into flight (R28, R34). -/
def freshGenerator (setpoint : Int) : SegBody → Generator
  | .ramp _ _ => .ramp setpoint
  | .dwell _ => .dwell 0
  | .cycle _ _ _ _ _ => .cycle false 0 0 false

/-- The head of the queue taken into flight in RUN or HOLD with none in flight (R34). -/
def takeIntoFlight (s : State) : State :=
  if s.posture = .run ∨ s.posture = .hold then
    match s.program.flight, s.program.queue with
    | none, seg :: _ =>
      { s with program :=
          { s.program with flight := some (freshGenerator s.program.setpoint seg.body), halfStep := false } }
    | _, _ => s
  else s

/-- The starved test: the flag is set in RUN with none in flight and an empty queue, with a STARVED notice where it was
clear (R43). -/
def starvedTest (s : State) : State :=
  if s.posture = .run ∧ s.program.flight = none ∧ s.program.queue = [] ∧ s.program.starved = false then
    pushNotice (.starved s.program.lastCompleted) { s with program := { s.program with starved := true } }
  else s

end Sys2Proof.Machine
end

