-- ==== Sys2Proof/Machine/Posture.lean ====
section
/-! DEFINITION. The posture controller: posture changes with the work they hand to the other blocks (R2), the hold and
unload records (R14 to R19), the hold demand (R121, R122), and the cause table's latches, clears and acknowledgements
(R5 to R13, R15). -/

namespace Sys2Proof.Machine

open Sys2Proof

/-! ## Posture changes -/

/-- The posture change itself: its POSTURE notice, and the program unit's work where the station leaves RUN (R2, R40,
R43, R44). -/
def changePosture (next : Posture) (cause : Option Cause) (outcome : Option UnloadOutcome) (s : State) : State :=
  pushNotice (.posture s.posture next cause outcome)
    { s with
      posture := next
      program := if s.posture = .run ∧ next ≠ .run then pauseProgram s.program else s.program }

/-- The hold demand falls without a notice (R121, R122). -/
def dropDemand (s : State) : State := { s with line := { s.line with holdTime := 0, demandCause := none } }

/-- The hold record written at an entry into HOLD (R14, R20). -/
def writeHoldRecord (c : Cause) (s : State) : State :=
  { s with holdRecord := some ⟨c, s.time, s.program.counts, s.loadNow, decide (c ≠ .peerHold)⟩ }

/-- The unload record written at an entry into UNLOAD, or into SAFE from RUN or HOLD (R16, R19). -/
def writeUnloadRecord (c : Cause) (s : State) : State :=
  { s with unloadRecord := some ⟨c, s.posture, s.time, s.servo.target, s.loadNow, [], 0, .pending⟩ }

def setOutcome (o : UnloadOutcome) (s : State) : State :=
  { s with unloadRecord := s.unloadRecord.map fun r => { r with outcome := o } }

/-- A pair appended to the later-cause list of 8, or counted in its overflow (R17). -/
def appendLater (c : Cause) (s : State) : State :=
  { s with
    unloadRecord := s.unloadRecord.map fun r =>
      if r.later.length < Config.laterPlaces then { r with later := r.later ++ [c] }
      else { r with overflow := saturate 255 (r.overflow + 1) } }

/-- Into RUN: the head is taken into flight, and the starved test is made (R2, R34, R43). -/
def enterRun (cause : Option Cause) (s : State) : State :=
  starvedTest (takeIntoFlight (dropDemand (changePosture .run cause none s)))

/-- Into HOLD on a latch (R13, R14). -/
def enterHold (c : Cause) (s : State) : State := changePosture .hold (some c) none (writeHoldRecord c s)

/-- The loop at an entry into UNLOAD: the unload setpoint from the target of the last control period (R60). -/
def beginUnload (s : State) : State :=
  { s with servo := { s.servo with unloadSetpoint := s.servo.target, settle := .notStarted, settleCount := 0 } }

/-- Into UNLOAD on a latch: records, the unload setpoint from the target, the hold slot emptied, and the UNLOAD NOTICE
placed (R2, R16, R60, R78, R125). -/
def enterUnload (c : Cause) (s : State) : State :=
  let s := beginUnload (changePosture .unload (some c) none (writeUnloadRecord c s))
  placeUnloadNotice ⟨s.settings.group, 0, c⟩ (dropDemand (emptyHoldSlot s))

/-- The servo loop at an entry into SAFE (R65). -/
def restServo (v : Servo) : Servo :=
  { v with valve := 0, integrator := 0, satDir := .zero, satCount := 0, followCount := 0, settle := .ended }

/-- The loop at rest and the trim 0 (R65, R113). -/
def restLoop (s : State) : State :=
  { s with servo := restServo s.servo, peers := { s.peers with trim := 0 } }

/-- The falls of FOLLOWING and VALVE_SAT that R65 brings. Both are EDGE entries, so nothing but the stored condition
changes (R6). -/
def lowerLoopConditions (s : State) : State :=
  setEntry .valveSat { s.entry .valveSat with condition := false }
    (setEntry .following { s.entry .following with condition := false } s)

/-- Into SAFE: the loop at rest, the trim 0, the hold slot emptied and the hold demand 0 (R2, R65, R78, R113). The
outcome stands in the notice of a change from UNLOAD. -/
def enterSafe (cause : Option Cause) (outcome : Option UnloadOutcome) (s : State) : State :=
  dropDemand (emptyHoldSlot (lowerLoopConditions (restLoop (changePosture .safe cause outcome s))))

/-- An unload ends with its outcome, in SAFE (R17, R18). -/
def endUnload (cause : Option Cause) (o : UnloadOutcome) (s : State) : State :=
  enterSafe cause (some o) (setOutcome o s)

/-! ## The hold demand (R121, R122) -/

/-- The outgoing hold time re-evaluated after a latch or a clear of the HOLD-class entry c, with the hold notice its
change brings. -/
def reviseHoldDemand (c : Cause) (s : State) : State :=
  if s.posture = .hold ∧ s.ownHoldLatched then
    if s.line.holdTime = 0 then
      placeHoldNotice ⟨s.settings.group, s.settings.holdRenewTime, c⟩
        { s with line := { s.line with holdTime := s.settings.holdRenewTime, demandCause := some c } }
    else s
  else if s.line.holdTime = 0 then s
  else if s.posture = .hold then placeHoldNotice ⟨s.settings.group, 0, c⟩ (dropDemand s)
  else dropDemand s

/-! ## Latching (R10 to R13) -/

/-- resume-required set in the hold record (R13, R14). -/
def requireResume (s : State) : State :=
  { s with holdRecord := s.holdRecord.map fun r => { r with resumeRequired := true } }

/-- What a latch of class cls does to the posture (R13, R17, R19). -/
def postureOnLatch (c : Cause) (cls : Class) (s : State) : State :=
  match cls with
  | .report => s
  | .hold =>
    match s.posture with
    | .run => enterHold c s
    | .hold => if c = .peerHold then s else requireResume s
    | .idle | .unload | .safe => s
  | .unload =>
    match s.posture with
    | .run | .hold => enterUnload c s
    | .unload => if c = .following then endUnload (some c) .incomplete (appendLater c s) else appendLater c s
    | .idle | .safe => s
  | .safe =>
    match s.posture with
    | .run | .hold => enterSafe (some c) none (setOutcome .incomplete (writeUnloadRecord c s))
    | .unload => endUnload (some c) .incomplete (appendLater c s)
    | .idle | .safe => s

/-- An entry latches: snapshot, notice, hall-stop break, posture, hold demand (R2, R10, R11, R12, R13, R121). -/
def latch (c : Cause) (s : State) : State :=
  let cls := classOf s.settings c
  let marked :=
    setEntry c { s.entry c with latched := true, ackPending := false, snapshot := some (snapshotOf s) } s
  let noticed := pushNotice (.causeLatched c cls) marked
  let stopped := if hallStopOf s.settings c then askBreak noticed else noticed
  let moved := postureOnLatch c cls stopped
  if cls = .hold then reviseHoldDemand c moved else moved

/-! ## Clearing (R7, R9, R11, R15) -/

/-- HOLD exit: back to RUN where no HOLD-class entry is latched and no resume is required (R15). -/
def holdExit (cause : Option Cause) (s : State) : State :=
  if s.posture = .hold ∧ s.holdLatched = false ∧ s.resumeRequired = false then enterRun cause s else s

/-- An entry clears, with its notice and, for a HOLD-class entry, the hold demand (R11, R121). -/
def clearLatch (c : Cause) (s : State) : State :=
  let cleared := setEntry c { s.entry c with latched := false, ackPending := false } s
  let noticed := pushNotice (.causeCleared c) cleared
  if classOf s.settings c = .hold then reviseHoldDemand c noticed else noticed

/-- An entry clears, and HOLD exit is evaluated where `exit` asks for it (R9, R15). -/
def clearEntry (exit : Bool) (cause : Option Cause) (c : Cause) (s : State) : State :=
  if exit && decide (classOf s.settings c = .hold) then holdExit cause (clearLatch c s) else clearLatch c s

/-! ## Condition reports (R5 to R8) -/

/-- The latch mode applied to a rise (R6, R7, R8), with the second-failure path of FOLLOWING (R17). -/
def onRise (c : Cause) (s : State) : State :=
  if (s.entry c).latched then
    if c = .following ∧ s.posture = .unload then endUnload (some c) .incomplete (appendLater c s) else s
  else latch c s

/-- The latch mode applied to a fall (R6, R7, R8). -/
def onFall (exit : Bool) (c : Cause) (s : State) : State :=
  match modeOf s.settings c with
  | .edge => s
  | .level =>
    if (s.entry c).latched && (s.entry c).ackPending then clearEntry exit (some c) c s else s
  | .follow => if (s.entry c).latched then clearEntry exit (some c) c s else s

/-- A block reports a condition: a value already held has no effect (R5). `exit` is false only inside ACK ALL, which
evaluates HOLD exit once at its end (R9). -/
def reportWith (exit : Bool) (c : Cause) (v : Bool) (s : State) : State :=
  if (s.entry c).condition = v then s
  else
    let stored := setEntry c { s.entry c with condition := v } s
    if v then onRise c stored else onFall exit c stored

def report (c : Cause) (v : Bool) (s : State) : State := reportWith true c v s

/-- A condition raised and lowered again at once (R21, R38, R42, R76, R90). -/
def pulse (c : Cause) (s : State) : State := report c false (report c true s)

/-! ## Acknowledgement (R6 to R9) -/

/-- One acknowledgement applied to an entry in the manner of its latch mode (R6, R7, R8). -/
def ackEntry (exit : Bool) (c : Cause) (s : State) : State :=
  if (s.entry c).latched then
    match modeOf s.settings c with
    | .edge => clearEntry exit none c s
    | .level =>
      if (s.entry c).condition then setEntry c { s.entry c with ackPending := true } s
      else clearEntry exit none c s
    | .follow => s
  else s

end Sys2Proof.Machine
end

