-- ==== Sys2Proof/Machine/Crack.lean ====
section
/-! DEFINITION. The crack unit: the hit detector (R167 to R171), hit records and the felicity test (R172, R173), the hit
FIFO (R175), the rate window and the trips (R177 to R180), and the alarm latch (R181, R182). -/

namespace Sys2Proof.Machine

open Sys2Proof

def setCrackChannel (i : Fin 8) (c : CrackChannel) (s : State) : State :=
  { s with crack := { s.crack with channels := s.crack.channels.set i c } }

def setDetector (i : Fin 8) (d : Detector) (s : State) : State :=
  setCrackChannel i { s.crack.channels[i] with detector := d } s

/-- The channel's CRACK condition evaluated and reported (R182). -/
def evalCrack (exit : Bool) (i : Fin 8) (s : State) : State :=
  reportWith exit (.crack i) (crackCondition s.settings.crack[i] s.crack.channels[i]) s

/-! ## The detector -/

/-- The hit in progress after its first sample (R168). -/
def startHit (amp : Nat) (s : State) : Hit :=
  { startTime := s.time, load := s.loadNow, peakLoad := s.servo.peak, peak := amp, rise := 0, count := 1,
    duration := 1, sinceCrossing := 0, below := false }

/-- The hit in progress after one more sample (R169). -/
def extendHit (threshold amp : Nat) (h : Hit) : Hit :=
  let d := h.duration + 1
  if threshold ≤ amp then
    { h with
      duration := d
      sinceCrossing := 0
      count := if h.below then saturate 65535 (h.count + 1) else h.count
      below := false
      peak := max h.peak amp
      rise := if h.peak < amp then d - 1 else h.rise }
  else { h with duration := d, sinceCrossing := h.sinceCrossing + 1, below := true }

/-- Whether the hit ends at the sample just taken, and then whether it is truncated (R169). -/
def hitEnds (cfg : CrackSettings) (amp : Nat) (h : Hit) : Option Bool :=
  if amp < cfg.threshold ∧ cfg.hdt ≤ h.sinceCrossing then some false
  else if Config.hitTruncation ≤ h.duration then some true
  else none

/-- The felicity flag (R173). -/
def felicityOf (st : Settings) (h : Hit) : Bool :=
  decide (h.load ≠ Config.faultCode) && decide ((st.felicityMinPeak : Int) ≤ h.peakLoad) &&
    decide (h.load * 256 < st.felicityRatio * h.peakLoad)

/-! ## The hit FIFO (R172, R175) -/

def hitRecord (i : Fin 8) (h : Hit) (felicity truncated : Bool) (gap : Nat) : HitRecord :=
  { channel := i, startTime := h.startTime, duration := h.duration, peak := h.peak, rise := h.rise, count := h.count,
    load := h.load, felicity := felicity, truncated := truncated, gap := gap }

/-- The record stored, or discarded for a full FIFO (R175). -/
def storeHit (i : Fin 8) (h : Hit) (felicity truncated : Bool) (s : State) : State :=
  if s.crack.fifo.length < Config.hitPlaces then
    let stored :=
      { s with
        crack := { s.crack with fifo := s.crack.fifo ++ [hitRecord i h felicity truncated s.crack.gap], gap := 0 } }
    if s.crack.fifo.isEmpty then pushNotice (.hitsWaiting i) stored else stored
  else { s with crack := { s.crack with gap := saturate 255 (s.crack.gap + 1) } }

/-! ## Counts and trips (R174, R178, R179) -/

/-- The window counts raised for a hit that ended (R174). -/
def countHit (felicity : Bool) (c : CrackChannel) : CrackChannel :=
  { c with
    windowHits := saturate 65535 (c.windowHits + 1)
    windowFelicity := if felicity then saturate 65535 (c.windowFelicity + 1) else c.windowFelicity }

/-- The trips of a hit, in the order tested. The counts are the ones before the hit and after it, so that a limit
trips at the hit that brings the count to it (R178). -/
def tripsOf (cfg : CrackSettings) (peak : Nat) (felicity : Bool) (before after : CrackChannel) : List Trip :=
  (match cfg.burst with
    | some level => if level ≤ peak then [.burst] else []
    | none => []) ++
  (if cfg.rateLimit ≠ 0 ∧ after.windowHits = cfg.rateLimit ∧ before.windowHits ≠ cfg.rateLimit then [.rate] else []) ++
  (if cfg.felicityLimit ≠ 0 ∧ felicity = true ∧ after.windowFelicity = cfg.felicityLimit ∧
      before.windowFelicity ≠ cfg.felicityLimit then [.felicity] else [])

/-- A trip kind added to the kinds set. -/
def addKind (k : Trip) (a : Alarm) : Alarm :=
  match k with
  | .burst => { a with burst := true }
  | .rate => { a with rate := true }
  | .felicity => { a with felicity := true }

/-- One trip on the alarm latch (R179, R180): a clear latch is set with the kind alone; a set latch gains the kind and,
in LEVEL mode, loses a pending ack. RATE and FELICITY make the alarm condition true. -/
def tripAlarm (mode : Mode) (now : BitVec 32) (a : Alarm) (k : Trip) : Alarm :=
  let kept :=
    if a.latched then addKind k { a with ackPending := if mode = .level then false else a.ackPending }
    else
      addKind k
        { a with
          latched := true, burst := false, rate := false, felicity := false, firstKind := some k,
          firstTime := some now, ackPending := false }
  { kept with condition := kept.condition || decide (k ≠ .burst) }

/-- The alarm latch after the trips of one hit. -/
def tripAlarms (mode : Mode) (now : BitVec 32) (ks : List Trip) (a : Alarm) : Alarm := ks.foldl (tripAlarm mode now) a

/-- The CRACK_ALARM notice of a hit that set the latch (R179). -/
def alarmNotice (i : Fin 8) (now : BitVec 32) (before : Alarm) (ks : List Trip) : List Notice :=
  match ks with
  | k :: _ => if before.latched then [] else [.crackAlarm i k now]
  | [] => []

/-- The work of R174 with an ended hit. -/
def finishHit (i : Fin 8) (h : Hit) (truncated : Bool) (s : State) : State :=
  let felicity := felicityOf s.settings h
  let before := s.crack.channels[i]
  let counted := countHit felicity before
  let stored := storeHit i h felicity truncated (setCrackChannel i counted s)
  let ks := tripsOf s.settings.crack[i] h.peak felicity before counted
  let tripped :=
    setCrackChannel i
      { counted with alarm := tripAlarms s.settings.crack[i].mode s.time ks counted.alarm } stored
  evalCrack true i (pushNotices (alarmNotice i s.time before.alarm ks) tripped)

/-- The state a channel enters when its hit ends (R170). -/
def afterHit (cfg : CrackSettings) : Detector := if cfg.hlt = 0 then .quiet else .lockout cfg.hlt

/-! ## Envelope samples (R167, R171) -/

/-- The amplitude of an envelope sample that is no fault code (R167). -/
def amplitudeOf (v : Byte) : Nat := min v.toNat 100

/-- A hit in progress takes a sample, and may end at it (R169, R170). -/
def stepHit (i : Fin 8) (amp : Nat) (h : Hit) (s : State) : State :=
  let cfg := s.settings.crack[i]
  let h := extendHit cfg.threshold amp h
  match hitEnds cfg amp h with
  | none => setDetector i (.inHit h) s
  | some truncated => finishHit i h truncated (setDetector i (afterHit cfg) s)

/-- A fault-code sample (R171). -/
def faultSensor (i : Fin 8) (s : State) : State :=
  match s.crack.channels[i].detector with
  | .disabled | .faulted => s
  | .quiet | .lockout _ => pushNotice (.crackSensorFault i s.time false) (setDetector i .faulted s)
  | .inHit _ => pushNotice (.crackSensorFault i s.time true) (setDetector i .faulted s)

/-- An envelope sample, by the channel's detector state; discarded for a disabled channel (R166, R167, R170). -/
def takeEnvelope (i : Fin 8) (v : Byte) (s : State) : State :=
  if s.settings.crack[i].enable then
    if v = 255#8 then faultSensor i s
    else
      match s.crack.channels[i].detector with
      | .disabled => s
      | .quiet =>
        if s.settings.crack[i].threshold ≤ amplitudeOf v then
          setDetector i (.inHit (startHit (amplitudeOf v) s)) s
        else s
      | .inHit h => stepHit i (amplitudeOf v) h s
      | .lockout left => setDetector i (if left ≤ 1 then .quiet else .lockout (left - 1)) s
      | .faulted => s
  else s

/-- This sample ends a hit on the channel (R169, R170). -/
def endsHit (i : Fin 8) (v : Byte) (s : State) : Bool :=
  s.settings.crack[i].enable && decide (v ≠ 255#8) &&
    (match s.crack.channels[i].detector with
    | .inHit h =>
      (hitEnds s.settings.crack[i] (amplitudeOf v)
        (extendHit s.settings.crack[i].threshold (amplitudeOf v) h)).isSome
    | _ => false)

/-- This sample brings the channel's lockout remaining to 0 (R170). -/
def endsLockout (i : Fin 8) (v : Byte) (s : State) : Bool :=
  s.settings.crack[i].enable && decide (v ≠ 255#8) &&
    (match s.crack.channels[i].detector with
    | .lockout left => decide (left ≤ 1)
    | _ => false)

/-! ## The alarm latch's clearing (R180, R181) -/

/-- An acknowledgement taken by a channel's alarm latch (R181). -/
def ackAlarm (mode : Mode) (a : Alarm) : Alarm :=
  if a.latched then
    if mode = .level ∧ a.condition = true then { a with ackPending := true }
    else { a with latched := false, ackPending := false }
  else a

/-- An acknowledgement passed to a channel's latch, and the CRACK condition its clearing lowers (R9, R181, R182). -/
def ackChannel (exit : Bool) (i : Fin 8) (s : State) : State :=
  evalCrack exit i
    (setCrackChannel i
      { s.crack.channels[i] with
        alarm := ackAlarm s.settings.crack[i].mode s.crack.channels[i].alarm } s)

/-- A closed count lies below its limit; a limit of 0 counts as below (R180). -/
def belowLimit (count limit : Nat) : Bool := decide (limit = 0) || decide (count < limit)

/-- A channel's record after steps 1 and 2 of a rate window expiry (R177). -/
def closeWindow (c : CrackChannel) : CrackChannel :=
  { c with
    closedHits := c.windowHits
    closedFelicity := c.windowFelicity
    windowHits := 0
    windowFelicity := 0 }

/-- The alarm latch at a rate window expiry: a true condition may fall, and a latch with ack pending then clears (R180,
R181). -/
def windowAlarm (cfg : CrackSettings) (c : CrackChannel) : Alarm :=
  if c.alarm.condition && belowLimit c.closedHits cfg.rateLimit && belowLimit c.closedFelicity cfg.felicityLimit then
    if c.alarm.latched && c.alarm.ackPending && decide (cfg.mode = .level) then
      { c.alarm with condition := false, latched := false, ackPending := false }
    else { c.alarm with condition := false }
  else c.alarm

/-- One channel worked at a rate window expiry (R177). -/
def windowChannel (i : Fin 8) (s : State) : State :=
  let closed := closeWindow s.crack.channels[i]
  evalCrack true i
    (setCrackChannel i { closed with alarm := windowAlarm s.settings.crack[i] closed } s)

/-- A rate window expiry: each channel in channel order (R177). -/
def closeRateWindow (s : State) : State := (List.finRange 8).foldl (fun s i => windowChannel i s) s

end Sys2Proof.Machine
end

