-- ==== Sys2Proof/Machine/Strain.lean ====
section
/-! DEFINITION. The strain unit: conversion, bands, extremes and zeroing (R134 to R151), and the drift records it feeds
(R152 to R163). -/

namespace Sys2Proof.Machine

open Sys2Proof

/-! ## Conversion (R138) -/

/-- The quotient of R138 before its clamp. -/
def rawStrain (cfg : StrainSettings) (r : Int) : Int :=
  roundDiv ((r - cfg.zeroOffset) * cfg.scale * (if cfg.negative then -1 else 1)) 65536

/-- The converted value in µε (R138). -/
def convertStrain (cfg : StrainSettings) (r : Int) : Int := clampTo (-32767) 32767 (rawStrain cfg r)

/-! ## Extremes (R144) -/

/-- A pair of largest and smallest value with one more value taken in (R144, R155). -/
def widen (v : Int) : Option (Int × Int) → Int × Int
  | none => (v, v)
  | some (hi, lo) => (max hi v, min lo v)

/-! ## The band (R140, R141) -/

/-- A band state with its above-count and below-count. -/
structure BandState where
  band : Band
  above : Nat
  below : Nat
  deriving DecidableEq, Repr

/-- The choice of R140 from the two counts: ABOVE before BELOW, the counts 0 at a change into either. -/
def bandFromCounts (trip above below : Nat) : BandState :=
  if trip ≤ above then ⟨.above, 0, 0⟩ else if trip ≤ below then ⟨.below, 0, 0⟩ else ⟨.within, above, below⟩

/-- The band and counts after a valid sample (R140, R141). A disabled channel takes none. -/
def bandStep (cfg : StrainSettings) (b : BandState) (v : Int) : BandState :=
  match b.band with
  | .disabled => b
  | .within | .fault =>
    bandFromCounts cfg.tripCount (if cfg.upperTrip < v then saturate 15 (b.above + 1) else 0)
      (if v < cfg.lowerTrip then saturate 15 (b.below + 1) else 0)
  | .above =>
    if cfg.upperRelease < v then ⟨.above, 0, 0⟩
    else bandFromCounts cfg.tripCount 0 (if v < cfg.lowerTrip then 1 else 0)
  | .below =>
    if v < cfg.lowerRelease then ⟨.below, 0, 0⟩
    else bandFromCounts cfg.tripCount (if cfg.upperTrip < v then 1 else 0) 0

/-! ## Writing the unit -/

def setStrainChannel (i : Fin 32) (c : StrainChannel) (s : State) : State :=
  { s with strain := { s.strain with channels := s.strain.channels.set i c } }

def setDriftRecord (i : Fin 32) (r : DriftRecord) (s : State) : State :=
  { s with strain := { s.strain with drift := s.strain.drift.set i r } }

/-- The channel's condition evaluated and reported (R142). -/
def evalStrain (i : Fin 32) (s : State) : State :=
  report (.strain i) (strainCondition s.settings.strain[i] s.strain.channels[i]) s

/-- The derate demand evaluated (R143). -/
def evalDerate (s : State) : State :=
  { s with strain := { s.strain with derateDemand := derateCondition s.settings s.strain } }

/-- The DRIFT condition evaluated and reported (R160). -/
def evalDrift (s : State) : State := report .drift (driftCondition s.settings s.strain) s

/-! ## Zeroing (R146 to R148) -/

/-- A zeroing operation abandoned, with its notice, where one is present (R148). -/
def abandonZeroing (i : Fin 32) (why : AbandonReason) (s : State) : State :=
  match s.strain.channels[i].zeroing with
  | none => s
  | some z =>
    pushNotice (.zeroAbandoned i why z.count)
      (setStrainChannel i { s.strain.channels[i] with zeroing := none } s)

/-- A valid raw value added to the zeroing operation, which completes at the 64th (R147). -/
def feedZeroing (i : Fin 32) (r : Int) (s : State) : State :=
  match s.strain.channels[i].zeroing with
  | none => s
  | some z =>
    if z.count + 1 < Config.zeroingSamples then
      setStrainChannel i { s.strain.channels[i] with zeroing := some ⟨z.count + 1, z.sum + r⟩ } s
    else
      let offset := roundDiv (z.sum + r) 64
      let s :=
        setStrainChannel i { s.strain.channels[i] with zeroing := none, aboveCount := 0, belowCount := 0 } s
      pushNotice (.zeroDone i offset)
        { s with
          settings :=
            { s.settings with
              strain := s.settings.strain.set i { s.settings.strain[i] with zeroOffset := offset } } }

/-- ZERO on one channel: started or restarted where it is enabled and named (R146). -/
def zeroStarts (mask : BitVec 32) (s : State) (i : Fin 32) : Bool :=
  mask.getLsbD i && s.settings.strain[i].enable

/-! ## Samples (R137, R139) -/

/-- The channel record after steps 1 to 3 of R137. -/
def strainRecord (cfg : StrainSettings) (r : Int) (c : StrainChannel) : StrainChannel :=
  let v := convertStrain cfg r
  let b := bandStep cfg ⟨c.band, c.aboveCount, c.belowCount⟩ v
  { c with
    last := some v
    clampFlag := decide (v ≠ rawStrain cfg r)
    extremes := some (widen v c.extremes)
    band := b.band
    aboveCount := b.above
    belowCount := b.below }

/-- The converted value handed to the channel's drift record (R155). -/
def feedDrift (i : Fin 32) (v : Int) (s : State) : State :=
  if s.strain.watched.isSome && watchedChannel s.settings.strain[i] then
    setDriftRecord i { s.strain.drift[i] with cycle := some (widen v s.strain.drift[i].cycle) } s
  else s

/-- A valid sample of an enabled channel, the six steps of R137. The drift record takes the value converted with the
offset in force before the zeroing of step 5. -/
def takeStrainValue (i : Fin 32) (r : Int) (s : State) : State :=
  let v := convertStrain s.settings.strain[i] r
  let banded := setStrainChannel i (strainRecord s.settings.strain[i] r s.strain.channels[i]) s
  feedDrift i v (feedZeroing i r (evalDerate (evalStrain i banded)))

/-- A fault-code sample of an enabled channel (R139). -/
def takeStrainFault (i : Fin 32) (s : State) : State :=
  let faulted :=
    setStrainChannel i { s.strain.channels[i] with band := .fault, aboveCount := 0, belowCount := 0 } s
  evalDerate (evalStrain i (abandonZeroing i .fault faulted))

/-- A strain sample: discarded for a disabled channel (R136, R137). -/
def takeStrainSample (i : Fin 32) (v : BitVec 24) (s : State) : State :=
  if s.settings.strain[i].enable then
    match sampleValue v with
    | none => takeStrainFault i s
    | some r => takeStrainValue i r s
  else s

/-! ## The drift records (R154 to R161) -/

/-- A CYCLE begin event (R154). -/
def cycleBegin (seq : BitVec 16) (watch : Bool) (s : State) : State :=
  if watch then
    evalDrift
      { s with
        strain :=
          { s.strain with watched := some seq, drift := Vector.replicate 32 {}, lastClose := none } }
  else { s with strain := { s.strain with watched := none } }

/-- The drift of a range against a reference in per-mille, truncated (R159). The truncated value is the one tested
against the limit, a limit of 0 included (log 39). -/
def driftOf (range reference : Nat) : Int :=
  clampTo (-9999) 9999 ((((range : Int) - reference) * 1000).tdiv reference)

/-- A used range taken by the record's state (R157, R158, R159). -/
def useRange (st : Settings) (range : Nat) (r : DriftRecord) : DriftRecord :=
  match r.state with
  | .noRef => r
  | .gathering =>
    let sum := r.sum + range
    let gathered := r.gathered + 1
    if st.referenceCycles ≤ gathered then
      let reference := sum / gathered
      { r with
        sum := sum
        gathered := gathered
        reference := some reference
        state := if reference = 0 then .noRef else .watching
        excess := if reference = 0 then r.excess else 0 }
    else { r with sum := sum, gathered := gathered }
  | .watching =>
    let d := driftOf range (r.reference.getD 0)
    { r with
      lastDrift := some d
      excess := if st.driftLimit < d.natAbs then saturate 255 (r.excess + 1) else 0 }

/-- A watched channel's record worked at a close (R156). -/
def closeRecord (st : Settings) (interrupted : Bool) (r : DriftRecord) : DriftRecord :=
  match r.cycle with
  | none => { r with lastRange := none, lastInterrupted := true }
  | some (hi, lo) =>
    let range := (hi - lo).toNat
    let closed := { r with cycle := none, lastRange := some range, lastInterrupted := interrupted }
    if interrupted then closed else useRange st range closed

/-- The notice of a reference formed at a close (R157, R161). -/
def referenceNotice (i : Fin 32) (seq : BitVec 16) (index : Nat) (before after : DriftRecord) : Option Notice :=
  match before.state, after.state with
  | .gathering, .watching => some (.driftRef i (after.reference.getD 0) after.gathered seq index)
  | .gathering, .noRef => some (.noRef i after.gathered seq index)
  | _, _ => none

/-- A cycle-close event: ignored without drift-watch; otherwise every watched record in channel order, the notices,
and the DRIFT condition once (R156, R160, R161). -/
def cycleClose (close : CycleClose) (watch : Bool) (s : State) : State :=
  if watch then
    let worked : Vector DriftRecord 32 := tabulate fun i =>
      if watchedChannel s.settings.strain[i] then closeRecord s.settings close.interrupted s.strain.drift[i]
      else s.strain.drift[i]
    let notices := (List.finRange 32).filterMap fun i =>
      referenceNotice i close.seq close.index s.strain.drift[i] worked[i]
    evalDrift (pushNotices notices { s with strain := { s.strain with drift := worked, lastClose := some close } })
  else s

end Sys2Proof.Machine
end

