-- ==== Sys2Proof/Machine/Program.lean ====
section
/-! DEFINITION. The program unit: the segment queue, the RAMP, DWELL and CYCLE generators, completion and derating (R27
to R46). -/

namespace Sys2Proof.Machine

open Sys2Proof

/-- The fine setpoint moved toward a goal by a step; true where it lands on the goal (R36). -/
def rampToward (setpoint goal : Int) (step : Nat) : Int × Bool :=
  if (goal - setpoint).natAbs ≤ step then (goal, true)
  else if setpoint < goal then (setpoint + step, false)
  else (setpoint - step, false)

/-- The step of a RAMP in force: half, truncated, at least 1, while derated (R36). -/
def rampStep (derated : Bool) (rate : Nat) : Nat := if derated then max (rate / 2) 1 else rate

/-- The triangle value of a phase, truncated toward zero (R39). -/
def triangle (amplitude quarter phase : Nat) : Int :=
  let a : Int := amplitude
  let q : Int := quarter
  let p : Int := phase
  if p ≤ q then (a * p).tdiv q
  else if p ≤ 3 * q then (a * (2 * q - p)).tdiv q
  else (a * (p - 4 * q)).tdiv q

/-- The phase after p; 4q − 1 advances to 0 (R39). -/
def nextPhase (quarter phase : Nat) : Nat := if phase + 1 < 4 * quarter then phase + 1 else 0

/-- The head segment leaves the queue and becomes last completed, its generator state discarded (R38, R42). -/
def retireHead (seg : Segment) (s : State) : State :=
  { s with
    program := { s.program with queue := s.program.queue.tail, flight := none, lastCompleted := seg.seq } }

/-- A segment completes (R42): it leaves, SEGMENT_DONE, the next is taken, INSPECT, the starved test. -/
def completeSegment (seg : Segment) (s : State) : State :=
  let next := takeIntoFlight (pushNotice (.segmentDone seg.seq seg.body.kind false) (retireHead seg s))
  starvedTest (if seg.inspect then pulse .inspect next else next)

/-- A CYCLE skipped at its begin step (R38). -/
def skipSegment (seg : Segment) (s : State) : State :=
  takeIntoFlight (pulse .program (pushNotice (.segmentDone seg.seq seg.body.kind true) (retireHead seg s)))

def setFlight (g : Generator) (s : State) : State := { s with program := { s.program with flight := some g } }

def setSetpoint (v : Int) (s : State) : State := { s with program := { s.program with setpoint := v } }

/-- A RAMP step (R36). -/
def stepRamp (seg : Segment) (target : Int) (rate : Nat) (s : State) : State :=
  let moved := rampToward s.program.setpoint (target * 256) (rampStep s.program.derated rate)
  if moved.2 then completeSegment seg (setSetpoint moved.1 s) else setSetpoint moved.1 s

/-- A DWELL step (R37). -/
def stepDwell (seg : Segment) (duration elapsed : Nat) (s : State) : State :=
  let counted := setFlight (.dwell (elapsed + 1)) s
  if duration ≤ elapsed + 1 then completeSegment seg counted else counted

/-- The begin step of a CYCLE (R38). -/
def beginCycle (seg : Segment) (mean : Int) (watch : Bool) (s : State) : State :=
  if s.settings.jumpTolerance < (s.program.counts - mean).natAbs then skipSegment seg s
  else cycleBegin seg.seq watch (setFlight (.cycle true 0 0 false) (setSetpoint (mean * 256) s))

/-- A cycle closes (R39, R40): the next cycle starts with its interrupted flag clear, the event goes to the strain
unit, and at the last cycle the segment completes (R42; log 8). -/
def closeCycle (seg : Segment) (mean : Int) (count done : Nat) (watch interrupted : Bool) (s : State) : State :=
  let closed :=
    cycleClose ⟨seg.seq, done + 1, interrupted⟩ watch
      (setFlight (.cycle true 0 (done + 1) false) (setSetpoint (mean * 256) s))
  if count ≤ done + 1 then completeSegment seg closed else closed

/-- A later step of a CYCLE, slowed to every second advancing expiry while derated (R39, R41). -/
def stepCycle (seg : Segment) (mean : Int) (amplitude quarter count : Nat) (watch : Bool) (phase done : Nat)
    (interrupted : Bool) (s : State) : State :=
  if s.program.derated && !s.program.halfStep then { s with program := { s.program with halfStep := true } }
  else
    let freed := { s with program := { s.program with halfStep := false } }
    let p := nextPhase quarter phase
    if p = 0 then closeCycle seg mean count done watch interrupted freed
    else
      setFlight (.cycle true p done interrupted)
        (setSetpoint ((mean + triangle amplitude quarter p) * 256) freed)

/-- One step of the segment in flight, by its kind (R35). -/
def stepSegment (seg : Segment) (g : Generator) (s : State) : State :=
  match seg.body, g with
  | .ramp target rate, .ramp _ => stepRamp seg target rate s
  | .dwell duration, .dwell elapsed => stepDwell seg duration elapsed s
  | .cycle mean _ _ _ watch, .cycle false _ _ _ => beginCycle seg mean watch s
  | .cycle mean amplitude quarter count watch, .cycle true phase done interrupted =>
    stepCycle seg mean amplitude quarter count watch phase done interrupted s
  | _, _ => s

/-- The derated flag set to the demand; the half-step marker cleared where the flag is clear (R41). -/
def derateProgram (s : State) : State :=
  { s with
    program :=
      { s.program with
        derated := s.strain.derateDemand
        halfStep := s.program.halfStep && s.strain.derateDemand } }

/-- The program unit's work at a control period expiry (R35). -/
def programExpiry (s : State) : State :=
  let s := derateProgram s
  if s.posture = .run ∧ s.program.paced = false ∧ s.program.starved = false then
    match s.program.queue, s.program.flight with
    | seg :: _, some g => stepSegment seg g s
    | _, _ => s
  else s

/-! ## The segment queue at commands (R30 to R33, R46) -/

/-- The segment an accepted APPEND queues (R30, R31). -/
def appendedSegment (body : SegBody) (inspect : Bool) (s : State) : Segment :=
  { seq := s.program.nextToAssign, body := clampBody s.settings body, inspect := inspect,
    clamped := decide (clampBody s.settings body ≠ body) }

/-- An accepted APPEND (R30): queued, next to assign up by one, starved cleared, and taken into flight in RUN or HOLD
with none in flight. -/
def queueSegment (body : SegBody) (inspect : Bool) (s : State) : State :=
  takeIntoFlight
    { s with
      program :=
        { s.program with
          queue := s.program.queue ++ [appendedSegment body inspect s]
          nextToAssign := s.program.nextToAssign + 1
          starved := false } }

/-- FLUSH: every segment not in flight is removed (R33). -/
def flushQueue (s : State) : State :=
  let p :=
    match s.program.flight, s.program.queue with
    | some _, seg :: _ => { s.program with queue := [seg], nextToAssign := seg.seq + 1 }
    | _, _ => { s.program with queue := [], nextToAssign := s.program.lastCompleted + 1 }
  starvedTest { s with program := p }

/-- The program unit at CLEAR (R23, R46): the setpoint and the derated flag stay. -/
def clearProgram (p : Program) : Program :=
  { setpoint := p.setpoint, derated := p.derated }

/-- Every held segment clamped again (R32). -/
def reclampQueue (s : State) : State :=
  { s with program := { s.program with queue := s.program.queue.map (reclamp s.settings) } }

end Sys2Proof.Machine
end

