-- ==== Sys2Proof/Machine/Peers.lean ====
section
/-! DEFINITION. The peer table: frames, aging, forgetting and the three conditions (R94 to R110), the share trim and
pacing computed from its entries (R112 to R120). -/

namespace Sys2Proof.Machine

open Sys2Proof

/-! ## Entries -/

def setPeers (es : List Peer) (s : State) : State := { s with peers := { s.peers with entries := es } }

def findPeer (id : Nat) (es : List Peer) : Option Peer := es.find? fun e => e.id = id

/-- An entry written in the place of the one with its id. -/
def putPeer (e : Peer) (es : List Peer) : List Peer := es.map fun x => if x.id = e.id then e else x

/-- A new entry placed so that the ids stay in ascending order (R97). -/
def insertPeer (e : Peer) : List Peer → List Peer
  | [] => [e]
  | x :: xs => if e.id < x.id then e :: x :: xs else x :: insertPeer e xs

/-- A posture byte; one that names none is written as SAFE (R95). -/
def postureOfByte (b : Byte) : Posture :=
  if b = 0 then .idle else if b = 1 then .run else if b = 2 then .hold else if b = 3 then .unload else .safe

/-- A weight byte; 0 is written as 1 (R95). -/
def weightOfByte (b : Byte) : Nat := max b.toNat 1

/-- The fields a REPORT carries, written into an entry (R95). Hold count, age, state and the chatter fields are as
they stand in the entry given. -/
def writeReport (r : ReportFields) (e : Peer) : Peer :=
  { e with
    group := r.group.toNat
    weight := weightOfByte r.weight
    posture := postureOfByte r.posture
    paced := r.flags.getLsbD 0
    starved := r.flags.getLsbD 1
    derated := r.flags.getLsbD 2
    firstCause := r.cause.toNat
    progress := r.progress
    load := r.load.toInt }

/-- The entry a REPORT from an id not held creates (R97). -/
def learntPeer (id : Nat) (r : ReportFields) : Peer :=
  writeReport r
    { id := id, group := 0, weight := 1, posture := .safe, paced := false, starved := false, derated := false,
      firstCause := 0, holdCount := r.hold.toNat, progress := 0, load := 0, age := 0, lost := false,
      chatterCount := 1, chattering := false }

/-- The entry after an accepted REPORT (R99, R100). -/
def updatedPeer (r : ReportFields) (e : Peer) : Peer :=
  { writeReport r e with
    holdCount := if r.group.toNat = e.group then r.hold.toNat else 0
    age := 0
    lost := false
    chatterCount := saturate 255 (e.chatterCount + 1) }

/-- The notices of an accepted frame: PEER_BACK, then PEER_CHANGED (R100). The weight compared is the one written, so a
report's weight 0 counts as 1 (R95; log 37). -/
def updateNotices (before after : Peer) : List Notice :=
  (if before.lost then [.peerBack before.id] else []) ++
    (if before.group = after.group ∧ before.weight = after.weight then []
    else [.peerChanged before.id before.group after.group before.weight after.weight])

/-! ## Conditions (R108) -/

/-- The three conditions evaluated and reported: hold, unload, lost (R108). -/
def evalPeers (s : State) : State :=
  let g := s.settings.group
  let es := s.peers.entries
  report .peerLost (peerLostCondition g es)
    (report .peerUnload (peerUnloadCondition g es) (report .peerHold (peerHoldCondition g es) s))

/-! ## Pacing (R112, R117, R118) -/

/-- R112. -/
def contributing (group : Nat) (e : Peer) : Bool :=
  !e.lost && decide (e.group = group) && decide (e.age ≤ Config.contributingAge)

def inPacingSet (group : Nat) (e : Peer) : Bool :=
  contributing group e && (decide (e.posture = .idle) || decide (e.posture = .run) || decide (e.posture = .hold))

def inShareSet (group : Nat) (e : Peer) : Bool :=
  contributing group e && (decide (e.posture = .run) || decide (e.posture = .hold)) && decide (e.load ≠ Config.faultCode)

/-- The lead over one entry: the difference modulo 2^32 read as signed (R117). -/
def leadOver (own : BitVec 32) (e : Peer) : Int := (own - e.progress).toInt

/-- The station's lead: the largest over the pacing set; none where the set is empty (R117). -/
def largestLead (own : BitVec 32) : List Peer → Option Int
  | [] => none
  | e :: es =>
    match largestLead own es with
    | none => some (leadOver own e)
    | some l => some (max (leadOver own e) l)

/-- The paced flag as the evaluation leaves it (R118). -/
def pacedAfter (limit : Nat) (lead : Option Int) (paced : Bool) : Bool :=
  match lead with
  | none => false
  | some l =>
    if limit = 0 then false
    else if (limit : Int) < l then true
    else if l ≤ ((limit / 2 : Nat) : Int) then false
    else paced

/-- The pacing evaluation, in RUN only; setting the flag marks the cycle in flight (R40, R117, R118). -/
def evalPacing (s : State) : State :=
  if s.posture = .run then
    let set := s.peers.entries.filter (inPacingSet s.settings.group)
    let paced := pacedAfter s.settings.leadLimit (largestLead s.program.progress set) s.program.paced
    { s with
      program := { (if paced then markInterrupted s.program else s.program) with paced := paced } }
  else s

/-! ## The share trim (R113, R114) -/

/-- The trim after one step (R114). -/
def trimAfter (st : Settings) (load0 : Int) (share : List Peer) (trim : Int) : Int :=
  if share.isEmpty then trim
  else
    let w : Int := st.weight + (share.map fun e => (e.weight : Int)).sum
    let total : Int := load0 + (share.map fun e => e.load).sum
    let d := (total * st.weight).tdiv w - load0
    clampTo (-st.trimLimit) st.trimLimit (trim + (d * st.shareGain).tdiv 256)

/-- The trim stepped at an aging pass in RUN or HOLD (R113). -/
def stepTrim (s : State) : State :=
  if s.posture = .run ∨ s.posture = .hold then
    { s with
      peers :=
        { s.peers with
          trim :=
            trimAfter s.settings s.loadNow (s.peers.entries.filter (inShareSet s.settings.group)) s.peers.trim } }
  else s

/-! ## Frames (R96 to R102, R109) -/

/-- The pacing evaluation after an accepted REPORT from a same-group entry (R109, R117). -/
def pacingAfterReport (group : Nat) (s : State) : State := if group = s.settings.group then evalPacing s else s

/-- A same-group REPORT from an id not held, learnt or refused (R97, R98). -/
def takeNewcomer (id : Nat) (r : ReportFields) (s : State) : State :=
  if s.peers.entries.length < Config.peerPlaces then
    let e := learntPeer id r
    pacingAfterReport e.group
      (evalPeers (pushNotice (.peerLearnt id e.group e.weight) (setPeers (insertPeer e s.peers.entries) s)))
  else
    let count := saturate 65535 (s.peers.refusals + 1)
    let counted := { s with peers := { s.peers with refusals := count, refusedId := some id } }
    if s.peers.refusedId = some id then counted else pushNotice (.peerRefused id count) counted

/-- A REPORT from an id held: discarded for chatter, or accepted (R99, R100). -/
def takeKnownReport (e : Peer) (r : ReportFields) (s : State) : State :=
  if s.settings.chatterLimit ≠ 0 ∧ s.settings.chatterLimit ≤ e.chatterCount then
    setPeers (putPeer { e with chattering := true } s.peers.entries) s
  else
    let after := updatedPeer r e
    pacingAfterReport after.group
      (evalPeers (pushNotices (updateNotices e after) (setPeers (putPeer after s.peers.entries) s)))

/-- A notice applied to its entry: the age becomes 0 and a LOST entry LIVE (R101, R102). -/
def applyNotice (before after : Peer) (s : State) : State :=
  evalPeers
    (pushNotices (if before.lost then [.peerBack before.id] else [])
      (setPeers (putPeer { after with age := 0, lost := false } s.peers.entries) s))

/-- A good frame whose source id is not the own id (R77, R96). -/
def takePeerFrame (f : Frame) (s : State) : State :=
  match f.body, findPeer f.source.toNat s.peers.entries with
  | .report r, some e => takeKnownReport e r s
  | .report r, none => if r.group.toNat = s.settings.group then takeNewcomer f.source.toNat r s else s
  | .holdNotice n, some e =>
    if n.group.toNat = e.group then applyNotice e { e with holdCount := n.hold.toNat } s else s
  | .unloadNotice n, some e =>
    if n.group.toNat = e.group then applyNotice e { e with posture := .unload } s else s
  | .holdNotice _, none => s
  | .unloadNotice _, none => s

/-! ## Aging (R104, R105) -/

/-- An entry after steps 1 and 2 of an aging pass. -/
def agedPeer (st : Settings) (e : Peer) : Peer :=
  let age := saturate 65535 (e.age + 1)
  { e with age := age, lost := e.lost || decide (st.peerLostLimit ≤ age) }

/-- The entry reaches the forget limit at this pass (R104, step 3). -/
def forgotten (st : Settings) (e : Peer) : Bool :=
  decide (st.forgetLimit ≠ 0) && decide (st.forgetLimit ≤ (agedPeer st e).age)

/-- The notices an entry raises at an aging pass. -/
def ageNotices (st : Settings) (e : Peer) : List Notice :=
  (if (agedPeer st e).lost && !e.lost then [.peerLostId e.id e.group e.posture] else []) ++
    (if forgotten st e then [.peerForgotten e.id .aged] else [])

/-- The entries an aging pass leaves (R104). -/
def agedEntries (st : Settings) (es : List Peer) : List Peer :=
  (es.filter fun e => !forgotten st e).map fun e =>
    { agedPeer st e with holdCount := e.holdCount - 1 }

/-- The peer table's work at an own report period expiry (R104, R109): entries, notices, conditions, trim, pacing. -/
def agingPass (s : State) : State :=
  let notices := s.peers.entries.flatMap (ageNotices s.settings)
  evalPacing
    (stepTrim (evalPeers (pushNotices notices (setPeers (agedEntries s.settings s.peers.entries) s))))

/-! ## Removal (R106, R107) and the chatter window (R103) -/

/-- Every entry that meets the test removed, with a notice for each in ascending id, and the conditions evaluated. -/
def removePeers (why : ForgetReason) (gone : Peer → Bool) (s : State) : State :=
  let notices := (s.peers.entries.filter gone).map fun e => Notice.peerForgotten e.id why
  evalPeers (pushNotices notices (setPeers (s.peers.entries.filter fun e => !gone e) s))

/-- R103. -/
def closeChatterWindow (s : State) : State :=
  setPeers (s.peers.entries.map fun e => { e with chatterCount := 0, chattering := false }) s

end Sys2Proof.Machine
end

