-- ==== Sys2Proof/Machine/Wire.lean ====
section
/-! DEFINITION. The station's values as bytes: the codes of 11.1, the field sizes of R198, the frames it composes (R73,
R81, R199), and the data of every read command (R92, R110, R150, R162, R176, R191, R195, R196; 11.4). -/

namespace Sys2Proof.Machine

open Sys2Proof

/-! ## Fields (R198) -/

/-- A value in n bytes, two's complement, more significant byte first (R198). -/
def be (n : Nat) (v : Int) : List Byte :=
  (List.range n).reverse.map fun i => BitVec.ofInt 8 (v / (256 : Int) ^ i)

def byteOf (b : Bool) : List Byte := be 1 (boolCode b)

/-- A presence byte, then the fields, sent as 0 where absent (R198). -/
def ifPresent {α : Type} (size : Nat) (fields : α → List Byte) : Option α → List Byte
  | some a => be 1 1 ++ fields a
  | none => be 1 0 ++ List.replicate size 0

/-! ## Codes (11.1) -/

def Posture.code : Posture → Nat
  | .idle => 0 | .run => 1 | .hold => 2 | .unload => 3 | .safe => 4

/-- The code of a cause's kind, from 1 in table order (11.1). -/
def Cause.kindCode : Cause → Nat
  | .crack _ => 1
  | .strain _ => 2
  | .drift => 3
  | .interlock _ => 4
  | .peerHold => 5
  | .peerUnload => 6
  | .peerLost => 7
  | .hallBreak => 8
  | .idClash => 9
  | .hostSilent => 10
  | .following => 11
  | .valveSat => 12
  | .stroke => 13
  | .loadStale => 14
  | .program => 15
  | .inspect => 16
  | .holdCmd => 17
  | .unloadCmd => 18

/-- The index of a cause entry within its kind (R3). -/
def Cause.index : Cause → Nat
  | .crack ch => ch.val
  | .strain ch => ch.val
  | .interlock l => l.val
  | _ => 0

/-- The cause entry of a kind code and an index; none outside the table (R9). -/
def Cause.ofCodes (kind index : Nat) : Option Cause :=
  Cause.all.find? fun c => c.kindCode = kind && c.index = index

def responseCode : RespCode → Nat
  | .ok => 0 | .busy => 1 | .range => 2 | .full => 3 | .causes => 4
  | .noId => 5 | .stale => 6 | .peerDown => 7 | .unknown => 8 | .format => 9

def SegKind.code : SegKind → Nat
  | .ramp => 1 | .dwell => 2 | .cycle => 3

def Trip.code : Trip → Nat
  | .burst => 1 | .rate => 2 | .felicity => 3

def UnloadOutcome.code : UnloadOutcome → Nat
  | .pending => 0 | .complete => 1 | .incomplete => 2

def ForgetReason.code : ForgetReason → Nat
  | .aged => 1 | .forget => 2 | .ownId => 3 | .ownGroup => 4

def AbandonReason.code : AbandonReason → Nat
  | .fault => 1 | .disabled => 2

def Settle.code : Settle → Nat
  | .notStarted => 0 | .testing => 1 | .ended => 2

def Band.code : Band → Nat
  | .disabled => 0 | .within => 1 | .above => 2 | .below => 3 | .fault => 4

def Detector.code : Detector → Nat
  | .disabled => 0 | .quiet => 1 | .inHit _ => 2 | .lockout _ => 3 | .faulted => 4

def DriftState.code : DriftState → Nat
  | .gathering => 0 | .watching => 1 | .noRef => 2

def Tx.code : Tx → Nat
  | .quiet => 0 | .defer => 1 | .sending _ => 2 | .backoff => 3 | .breaking _ => 4

def SatDir.value : SatDir → Int
  | .plus => 1 | .zero => 0 | .minus => -1

def SilenceTimer.code : SilenceTimer → Nat
  | .stopped => 0 | .running _ => 1 | .expired => 2

/-- Three flags as bits 0, 1 and 2 of a byte. -/
def flagByte (a b c : Bool) : Byte :=
  (if a then 1#8 else 0#8) ||| (if b then 2#8 else 0#8) ||| (if c then 4#8 else 0#8)

/-! ## Frames (R73, R81, R199) -/

/-- The REPORT composed from the station's state at the attempt start (R73, R81). -/
def reportOf (s : State) : ReportFields where
  group := BitVec.ofNat 8 s.settings.group
  weight := BitVec.ofNat 8 s.settings.weight
  posture := BitVec.ofNat 8 s.posture.code
  flags := flagByte s.program.paced s.program.starved s.program.derated
  cause :=
    match s.posture, s.unloadRecord with
    | .unload, some r | .safe, some r => BitVec.ofNat 8 r.cause.kindCode
    | _, _ => 0
  hold := BitVec.ofNat 8 s.line.holdTime
  progress := s.program.progress
  load := BitVec.ofInt 24 s.loadNow

/-- A notice's payload from its slot's content (R73, R199). -/
def noticeOf (c : NoticeContent) : NoticeFields where
  group := BitVec.ofNat 8 c.group
  hold := BitVec.ofNat 8 c.holdTime
  cause := BitVec.ofNat 8 c.cause.kindCode
  origin := BitVec.ofNat 8 c.cause.index

/-! ## Notice entries (11.4) -/

/-- A cause as kind and index; kind 0 where there is none (11.1; log 13). -/
def causeBytes : Option Cause → List Byte
  | some c => be 1 c.kindCode ++ be 1 c.index
  | none => [0, 0]

def Notice.code : Notice → Nat
  | .posture _ _ _ _ => 1
  | .causeLatched _ _ => 2
  | .causeCleared _ => 3
  | .segmentDone _ _ _ => 4
  | .starved _ => 5
  | .peerLearnt _ _ _ => 6
  | .peerRefused _ _ => 7
  | .peerLostId _ _ _ => 8
  | .peerBack _ => 9
  | .peerChanged _ _ _ _ _ => 10
  | .peerForgotten _ _ => 11
  | .zeroDone _ _ => 12
  | .zeroAbandoned _ _ _ => 13
  | .driftRef _ _ _ _ _ => 14
  | .noRef _ _ _ _ => 15
  | .hitsWaiting _ => 16
  | .crackAlarm _ _ _ => 17
  | .crackSensorFault _ _ _ => 18
  | .overflow _ _ => 19

/-- The fields of a notice, in the order of R190's table. -/
def Notice.fields : Notice → List Byte
  | .posture previous next cause outcome =>
    be 1 previous.code ++ be 1 next.code ++ causeBytes cause ++
      be 1 (match outcome with
        | some o => o.code
        | none => 0)
  | .causeLatched c cls => causeBytes (some c) ++ be 1 cls.code
  | .causeCleared c => causeBytes (some c)
  | .segmentDone seq kind skipped => be 2 seq.toNat ++ be 1 kind.code ++ be 1 (if skipped then 2 else 1)
  | .starved last => be 2 last.toNat
  | .peerLearnt id group weight => be 1 id ++ be 1 group ++ be 1 weight
  | .peerRefused id count => be 1 id ++ be 2 count
  | .peerLostId id group p => be 1 id ++ be 1 group ++ be 1 p.code
  | .peerBack id => be 1 id
  | .peerChanged id og ng ow nw => be 1 id ++ be 1 og ++ be 1 ng ++ be 1 ow ++ be 1 nw
  | .peerForgotten id why => be 1 id ++ be 1 why.code
  | .zeroDone ch offset => be 1 ch.val ++ be 3 offset
  | .zeroAbandoned ch why n => be 1 ch.val ++ be 1 why.code ++ be 1 n
  | .driftRef ch ref n seq index => be 1 ch.val ++ be 2 ref ++ be 1 n ++ be 2 seq.toNat ++ be 3 index
  | .noRef ch n seq index => be 1 ch.val ++ be 1 n ++ be 2 seq.toNat ++ be 3 index
  | .hitsWaiting ch => be 1 ch.val
  | .crackAlarm ch k t => be 1 ch.val ++ be 1 k.code ++ be 4 t.toNat
  | .crackSensorFault ch t discarded => be 1 ch.val ++ be 4 t.toNat ++ byteOf discarded
  | .overflow lost t => be 1 lost ++ be 4 t.toNat

/-- A notice entry's 14 bytes (11.4). -/
def NoticeEntry.bytes (e : NoticeEntry) : List Byte :=
  be 1 e.notice.code ++ be 4 e.time.toNat ++ e.notice.fields ++ List.replicate (9 - e.notice.fields.length) 0

/-! ## The status record (R195, 11.4) -/

def PortLine.statusByte (l : PortLine) : Byte := flagByte l.inputOpen l.debouncedOpen l.timer.isSome

/-- The sequence number of the segment in flight; 0 where none is (11.4). -/
def Program.flightSeq (p : Program) : Nat :=
  match p.queue, p.flight with
  | seg :: _, some _ => seg.seq.toNat
  | _, _ => 0

/-- The 64 bytes of the status record (11.4). -/
def statusRecord (s : State) : List Byte :=
  be 1 s.posture.code ++ be 1 s.settings.stationId ++ be 1 s.settings.group ++ be 1 s.settings.weight ++
    be 4 s.time.toNat ++
    be 3 s.program.counts ++
    [flagByte s.program.paced s.program.starved s.program.derated |||
      (if s.program.flight.isSome then 8#8 else 0#8)] ++
    be 2 s.program.lastCompleted.toNat ++ be 2 s.program.nextToAssign.toNat ++ be 1 s.program.queue.length ++
    be 2 s.program.flightSeq ++ be 1 (s.program.queue.filter fun g => g.clamped).length ++
    be 4 s.program.progress.toNat ++
    be 3 s.loadNow ++ be 3 (s.servo.displacement.getD Config.faultCode) ++ be 3 s.servo.peak ++
    be 3 s.servo.target ++ be 3 s.servo.error ++ be 2 s.servo.integrator ++ be 2 s.servo.valve ++
    be 1 s.servo.satDir.value ++ be 2 s.servo.satCount ++ be 2 s.servo.followCount ++ be 1 s.servo.stale ++
    be 3 s.servo.unloadSetpoint ++ be 1 s.servo.settle.code ++ be 2 s.servo.settleCount ++
    (List.finRange 4).map (fun i => s.ports[i].statusByte) ++
    be 1 s.line.holdTime ++ causeBytes s.line.demandCause ++
    be 1 (boolCode s.breakDue + 2 * s.link.silence.code + 8 * boolCode (s.entry .hostSilent).condition) ++
    be 1 s.link.notices.length

/-! ## READ CAUSES and READ RECORDS (R196) -/

def Snapshot.bytes (p : Snapshot) : List Byte :=
  be 4 p.time.toNat ++ be 3 p.load ++ be 3 p.target ++ be 4 p.progress.toNat ++ be 1 p.posture.code

def causeEntryBytes (s : State) (c : Cause) : List Byte :=
  be 1 (classOf s.settings c).code ++ be 1 (modeOf s.settings c).code ++ byteOf (s.entry c).condition ++
    byteOf (s.entry c).latched ++ byteOf (s.entry c).ackPending ++ byteOf (hallStopOf s.settings c) ++
    ifPresent 15 Snapshot.bytes (s.entry c).snapshot

def causesData (s : State) : List Byte := Cause.all.flatMap (causeEntryBytes s) ++ byteOf s.breakDue

def HoldRecord.bytes (r : HoldRecord) : List Byte :=
  causeBytes (some r.cause) ++ be 4 r.time.toNat ++ be 3 r.setpoint ++ be 3 r.load ++ byteOf r.resumeRequired

def UnloadRecord.bytes (r : UnloadRecord) : List Byte :=
  causeBytes (some r.cause) ++ be 1 r.posture.code ++ be 4 r.time.toNat ++ be 3 r.target ++ be 3 r.load ++
    be 1 r.later.length ++ r.later.flatMap (fun c => causeBytes (some c)) ++ be 1 r.overflow ++ be 1 r.outcome.code

/-- READ RECORDS (R196). An absent unload record is sent with an empty later-cause list (log 14). -/
def recordsData (s : State) : List Byte :=
  ifPresent 13 HoldRecord.bytes s.holdRecord ++ ifPresent 16 UnloadRecord.bytes s.unloadRecord

/-! ## READ PEERS (R110) -/

/-- An entry in READ PEERS: the fields of R95, and behind them whether it is same-group (log 42). -/
def peerBytes (group : Nat) (e : Peer) : List Byte :=
  be 1 e.id ++ be 1 e.group ++ be 1 e.weight ++ be 1 e.posture.code ++ [flagByte e.paced e.starved e.derated] ++
    be 1 e.firstCause ++ be 1 e.holdCount ++ be 4 e.progress.toNat ++ be 3 e.load ++ be 2 e.age ++ byteOf e.lost ++
    be 1 e.chatterCount ++ byteOf e.chattering ++ byteOf (decide (e.group = group))

/-- The data of READ PEERS. The share trim is sent in 3 bytes (log 36). -/
def peersData (s : State) : List Byte :=
  be 1 s.peers.entries.length ++ s.peers.entries.flatMap (peerBytes s.settings.group) ++
    be 1 (s.peers.refusedId.getD 0) ++ be 2 s.peers.refusals ++ be 3 s.peers.trim ++
    byteOf (s.entry .peerHold).condition ++ byteOf (s.entry .peerUnload).condition ++
    byteOf (s.entry .peerLost).condition

/-! ## READ STRAIN and READ DRIFT (R150, R162) -/

def pairBytes (p : Int × Int) : List Byte := be 2 p.1 ++ be 2 p.2

def strainBytes (s : State) (i : Fin 32) : List Byte :=
  let c := s.strain.channels[i]
  byteOf s.settings.strain[i].enable ++ be 1 c.band.code ++ be 2 (c.last.getD (-32768)) ++ byteOf c.clampFlag ++
    be 1 c.aboveCount ++ be 1 c.belowCount ++ ifPresent 4 pairBytes c.extremes ++
    be 3 s.settings.strain[i].zeroOffset ++ ifPresent 1 (fun z => be 1 z.count) c.zeroing ++
    byteOf (s.entry (.strain i)).condition

def strainData (s : State) : List Byte :=
  (List.finRange 32).flatMap (strainBytes s) ++ byteOf s.strain.derateDemand

def driftBytes (s : State) (i : Fin 32) : List Byte :=
  let r := s.strain.drift[i]
  byteOf (watchedChannel s.settings.strain[i]) ++ be 1 r.state.code ++ be 3 r.sum ++ be 1 r.gathered ++
    ifPresent 2 (fun n : Nat => be 2 n) r.reference ++ ifPresent 4 pairBytes r.cycle ++
    ifPresent 2 (fun n : Nat => be 2 n) r.lastRange ++ byteOf r.lastInterrupted ++
    ifPresent 2 (fun d : Int => be 2 d) r.lastDrift ++ be 1 r.excess

def CycleClose.bytes (c : CycleClose) : List Byte := be 2 c.seq.toNat ++ be 3 c.index ++ byteOf c.interrupted

def driftData (s : State) : List Byte :=
  ifPresent 2 (fun q : BitVec 16 => be 2 q.toNat) s.strain.watched ++ ifPresent 6 CycleClose.bytes s.strain.lastClose ++
    byteOf (s.entry .drift).condition ++ (List.finRange 32).flatMap (driftBytes s)

/-! ## READ HITS (R176, 11.4) -/

def HitRecord.bytes (h : HitRecord) : List Byte :=
  be 1 h.channel.val ++ be 4 h.startTime.toNat ++ be 2 h.duration ++ be 1 h.peak ++ be 2 h.rise ++ be 2 h.count ++
    be 3 h.load ++ [flagByte h.felicity h.truncated false] ++ be 1 h.gap

/-- The duration and peak of the hit in progress (R176). -/
def Detector.progressBytes : Detector → List Byte
  | .inHit h => be 1 1 ++ be 4 h.duration ++ be 1 h.peak
  | _ => List.replicate 6 0

/-- Lockout remaining (R164). -/
def Detector.lockoutLeft : Detector → Nat
  | .lockout n => n
  | _ => 0

def Alarm.bytes (a : Alarm) : List Byte :=
  byteOf a.latched ++ [flagByte a.burst a.rate a.felicity] ++ ifPresent 1 (fun k : Trip => be 1 k.code) a.firstKind ++
    ifPresent 4 (fun t : BitVec 32 => be 4 t.toNat) a.firstTime ++ byteOf a.condition ++ byteOf a.ackPending

def crackBytes (c : CrackChannel) : List Byte :=
  be 1 c.detector.code ++ c.detector.progressBytes ++ be 2 c.detector.lockoutLeft ++ be 2 c.windowHits ++
    be 2 c.windowFelicity ++ be 2 c.closedHits ++ be 2 c.closedFelicity ++ c.alarm.bytes

/-- The data of READ HITS: the records removed, then the unit as it stands after the removal (R176). -/
def hitsData (removed : List HitRecord) (s : State) : List Byte :=
  be 1 removed.length ++ removed.flatMap HitRecord.bytes ++ be 1 s.crack.fifo.length ++ be 1 s.crack.gap ++
    (List.finRange 8).flatMap (fun i => crackBytes s.crack.channels[i])

/-- The data of READ NOTICES (R191). -/
def noticesData (removed : List NoticeEntry) (s : State) : List Byte :=
  be 1 removed.length ++ removed.flatMap NoticeEntry.bytes ++ be 1 s.link.notices.length

/-! ## READ LINE (R92) -/

def slotBytes : Option SlotCounts → List Byte
  | some c => be 1 1 ++ be 1 c.attempts ++ be 1 c.collisions
  | none => [0, 0, 0]

def contentBytes (c : NoticeContent) : List Byte := be 1 c.group ++ be 1 c.holdTime ++ causeBytes (some c.cause)

/-- The data of READ LINE: flags, transmitter, slots, successors, generator, id (R92; log 15). -/
def lineData (s : State) : List Byte :=
  let l := s.line
  byteOf l.noise ++ byteOf l.framing ++ byteOf l.crcError ++ byteOf l.formatError ++ byteOf l.lateCollision ++
    byteOf l.dropped ++ byteOf l.breakHeard ++ be 1 l.tx.code ++
    slotBytes (l.unloadSlot.pending.map Prod.snd) ++ slotBytes (l.holdSlot.pending.map Prod.snd) ++
    slotBytes l.reportSlot ++
    ifPresent 4 contentBytes l.unloadSlot.successor ++ ifPresent 4 contentBytes l.holdSlot.successor ++
    be 2 l.generator.toNat ++ be 1 s.settings.stationId

end Sys2Proof.Machine
end

