-- ==== Sys2Proof/Machine/HallLine.lean ====
section
/-! DEFINITION. The line controller's events: receiving (R74 to R77, R90), attempts and their ends (R79 to R86), the
break's end (R88), and the meanings of the hall line's rows. -/

namespace Sys2Proof.Machine

open Sys2Proof

def setLine (l : Line) (s : State) : State := { s with line := l }

/-! ## Attempts (R79 to R81) -/

/-- The first pending slot in the order of preference (R79, R80). -/
def firstPending (l : Line) : Option SlotName :=
  if l.unloadSlot.pending.isSome then some .unload
  else if l.holdSlot.pending.isSome then some .hold
  else if l.reportSlot.isSome then some .report
  else none

/-- A pending slot's counts. -/
def slotCounts (l : Line) : SlotName → SlotCounts
  | .unload => (l.unloadSlot.pending.map Prod.snd).getD {}
  | .hold => (l.holdSlot.pending.map Prod.snd).getD {}
  | .report => l.reportSlot.getD {}

/-- A pending slot's counts written. -/
def setSlotCounts (n : SlotName) (k : SlotCounts) (l : Line) : Line :=
  match n with
  | .unload =>
    { l with unloadSlot := { l.unloadSlot with pending := l.unloadSlot.pending.map fun p => (p.1, k) } }
  | .hold => { l with holdSlot := { l.holdSlot with pending := l.holdSlot.pending.map fun p => (p.1, k) } }
  | .report => { l with reportSlot := l.reportSlot.map fun _ => k }

/-- The frame a slot's attempt drives: a notice as fixed in its slot, a REPORT composed now, the source the own id at
this moment (R81). -/
def frameOf (n : SlotName) (s : State) : Frame :=
  let source := BitVec.ofNat 8 s.settings.stationId
  match n, s.line.unloadSlot.pending, s.line.holdSlot.pending with
  | .unload, some p, _ => ⟨source, .unloadNotice (noticeOf p.1)⟩
  | .hold, _, some p => ⟨source, .holdNotice (noticeOf p.1)⟩
  | _, _, _ => ⟨source, .report (reportOf s)⟩

/-- The line returns to mark: a framing error that did not run on into a break is flagged (R74, R90). -/
def returnToMark (l : Line) : Line :=
  { l.told false false with
    spaceCount := if l.tapped then l.spaceCount else 0, framing := l.framing || l.framingPending
    framingPending := false }

/-- An attempt start in DEFER (R79, R81). -/
def startAttempt (s : State) : State :=
  match s.line.tx, firstPending s.line with
  | .defer, some n =>
    let counts : SlotCounts := { slotCounts s.line n with attempts := (slotCounts s.line n).attempts + 1 }
    setLine
      { seizeDriver (setSlotCounts n counts (returnToMark s.line)) with
        tx := .sending ⟨n, counts, encodeFrame (frameOf n s), 0⟩ } s
  | _, _ => s

/-! ## Ends of an attempt (R82 to R86) -/

/-- The own driver released and the transmitter at rest: DEFER where a slot is pending, else QUIET (R79). -/
def releaseToRest (id : Nat) (l : Line) : Line :=
  let r := releaseDriver l
  { r with tx := restTx id r }

/-- An attempt that ran to its end (R82). -/
def finishAttempt (s : State) : State :=
  match s.line.tx with
  | .sending f => setLine (releaseToRest s.settings.stationId (endAttempt f.slot none s.line)) s
  | _ => s

/-- The sequence generator's next value (R85). -/
def nextGenerator (g : BitVec 16) : BitVec 16 := g * 25173#16 + 13849#16

/-- The slot times drawn after the nth collision: the low bits of the generator's new value (R84). -/
def drawSlots (n : Nat) (g : BitVec 16) : Nat := (nextGenerator g).toNat % 2 ^ min n 8

/-- A collision that is not the slot's 16th attempt: the count goes up, a back-off is drawn (R83, R84). A wait of 0
ends at once; a station whose id has become 0 rests instead (R87; log 17). -/
def backOff (f : Flight) (s : State) : State :=
  let n := f.counts.collisions + 1
  let ended := endAttempt f.slot (some { f.counts with collisions := n }) s.line
  if s.settings.stationId = 0 then setLine (releaseToRest 0 ended) s
  else
    let drawn := { ended with generator := nextGenerator ended.generator }
    let wait := drawSlots n ended.generator * Config.slotBits
    if wait = 0 then setLine (releaseToRest s.settings.stationId drawn) s
    else setLine { releaseDriver drawn with tx := .backoff, wait := wait } s

/-- A frame dropped at its 16th attempt (R86). -/
def dropFrame (f : Flight) (s : State) : State :=
  setLine { releaseToRest s.settings.stationId (endAttempt f.slot none s.line) with dropped := true } s

/-- A late collision (R83). -/
def lateCollide (f : Flight) (s : State) : State :=
  setLine { releaseToRest s.settings.stationId (endAttempt f.slot none s.line) with lateCollision := true } s

/-- Contention tells of another active driver (R69, R91; log 6). -/
def hearContention (s : State) : State := setLine (s.line.told s.line.space true) s

/-- Contention at a bit time of the attempt; ignored during the own break (R83, R86, R88). -/
def contend (bit : Nat) (s : State) : State :=
  match s.line.tx with
  | .sending f =>
    let heard := hearContention s
    if Config.headerBits ≤ bit then lateCollide f heard
    else if Config.maxAttempts ≤ f.counts.attempts then dropFrame f heard
    else backOff f heard
  | _ => s

/-- The back-off wait ends; during a break the transmitter enters DEFER only when the break ends (R84, R88). -/
def endBackoff (s : State) : State :=
  match s.line.tx with
  | .backoff =>
    let l := { s.line with wait := 0 }
    setLine { l with tx := restTx s.settings.stationId l } s
  | .breaking _ => setLine { s.line with wait := 0 } s
  | _ => s

/-- The own break ends (R88). -/
def endBreak (s : State) : State :=
  match s.line.tx with
  | .breaking _ =>
    if s.line.wait = 0 then setLine (releaseToRest s.settings.stationId s.line) s
    else setLine { releaseDriver s.line with tx := .backoff } s
  | _ => s

/-! ## Reception (R71, R74 to R77, R90) -/

/-- The bit times at space up to and with a stop bit at space: the zero data bits sent last, and the start bit where
every data bit is zero (R70, R90). -/
def spaceRun (c : Byte) : Nat := if c = 0#8 then 10 else 8 - c.toNat.log2

/-- The line as the last bit time of a FRAME_RECEIVED leaves it, where that bit time was not read itself (R69, R71, R90;
log 6). -/
def lineAfterChars (chars : List Byte) (stop : StopBit) (noisy : Bool) (l : Line) : Line :=
  let noted := { l with noise := l.noise || noisy, taking := none }
  if l.tapped then noted
  else
    { noted.told (decide (stop = .space)) (decide (stop = .space)) with
      idleCount := 0, spaceCount := if stop = .space then spaceRun (chars.getLastD 0) else 0 }

/-- A frame that reached its end, judged and handed on (R75, R76, R77). -/
def takeFrame (bytes : List Byte) (s : State) : State :=
  match judgeFrame bytes with
  | .badCrc => setLine { s.line with crcError := true } s
  | .badFormat => setLine { s.line with formatError := true } s
  | .good f => if f.source.toNat = s.settings.stationId then pulse .idClash s else takePeerFrame f s

/-- The characters a hunting receiver took, judged at the frame's end or at the character that breaks it (R74). -/
def takeChars (chars : List Byte) (stop : StopBit) (s : State) : State :=
  if chars.head? ≠ some syncByte then setLine { s.line with rx := .waiting } s
  else if stop = .space then setLine { s.line with rx := .waiting, framingPending := true } s
  else
    match frameLength chars with
    | some n =>
      if n ≤ chars.length then takeFrame (chars.take n) s
      else setLine { s.line with rx := .waiting, framing := true } s
    | none => setLine { s.line with rx := .waiting, framing := true } s

/-- Characters on the line. While the own driver is active none is taken, and a waiting receiver takes none (R74,
R76). -/
def receiveChars (chars : List Byte) (stop : StopBit) (noisy : Bool) (s : State) : State :=
  if s.line.driving ∨ chars = [] then s
  else
    let heard := setLine (lineAfterChars chars stop noisy s.line) s
    match s.line.rx with
    | .waiting => heard
    | .hunting => takeChars chars stop heard

/-- The space count reaches 30 (R90). -/
def recogniseBreak (s : State) : State :=
  if s.line.driving then s
  else
    pulse .hallBreak
      (setLine
        { s.line.told true true with
          rx := .waiting, taking := none, framingPending := false, breakHeard := true
          idleCount := if s.line.tapped then s.line.idleCount else 0
          spaceCount := max s.line.spaceCount Config.breakRecognition } s)

/-- The receiver hunts again after 10 idle bit times (R74, R76, R90). -/
def resumeHunt (s : State) : State :=
  if s.line.driving then s
  else
    match s.line.rx with
    | .hunting => s
    | .waiting =>
      setLine
        { returnToMark s.line with
          rx := .hunting, taking := none, idleCount := max s.line.idleCount Config.huntBits } s

/-- A false start: noted where its three samples disagree, and the receiver hunts on (R71). -/
def falseStarted (noisy : Bool) (s : State) : State :=
  if s.line.driving then s
  else
    match s.line.rx with
    | .waiting => s
    | .hunting => setLine { s.line with noise := s.line.noise || noisy } s

def markReturned (s : State) : State := if s.line.driving then s else setLine (returnToMark s.line) s

/-! ## Meanings -/

/-- FRAME_RECEIVED (R74 to R77). -/
def execFrameReceived (chars : List Byte) (stop : StopBit) (noisy : Bool) (s : State) : Outcome :=
  .next (receiveChars chars stop noisy s)

/-- BREAK_RECOGNISED (R90). -/
def execBreakRecognised (s : State) : Outcome := .next (recogniseBreak s)

/-- RECEIVER_HUNT_RESUME (R76). -/
def execReceiverHuntResume (s : State) : Outcome := .next (resumeHunt s)

/-- ATTEMPT_START (R79, R81). -/
def execAttemptStart (s : State) : Outcome := .next (startAttempt s)

/-- FRAME_SENT (R82). -/
def execFrameSent (s : State) : Outcome := .next (finishAttempt s)

/-- CONTENTION (R83, R86, R88). -/
def execContention (bit : Nat) (s : State) : Outcome := .next (contend bit s)

/-- BACKOFF_END (R84, R88). -/
def execBackoffEnd (s : State) : Outcome := .next (endBackoff s)

/-- BREAK_END (R88). -/
def execBreakEnd (s : State) : Outcome := .next (endBreak s)

/-- FALSE_START (R71). -/
def execFalseStart (noisy : Bool) (s : State) : Outcome := .next (falseStarted noisy s)

/-- LINE_RETURNS_TO_MARK (R74, R90). -/
def execLineReturnsToMark (s : State) : Outcome := .next (markReturned s)

end Sys2Proof.Machine
end

