-- ==== Sys2Proof/Machine/Link.lean ====
section
/-! DEFINITION. The link port: the exchange of commands and responses (R184 to R187, R200), the host-silence timer (R193,
R194) and the removal of notices (R191). -/

namespace Sys2Proof.Machine

open Sys2Proof

/-- What a command answers: its response code and, for OK, its own data (R187). -/
structure Reply where
  code : RespCode
  data : List Byte
  deriving DecidableEq, Repr

/-- A command refused: nothing changed, no data (R187, R200). -/
def refuse (code : RespCode) (s : State) : State × Reply := (s, ⟨code, []⟩)

/-- A command accepted, with its data. -/
def accept (s : State) (data : List Byte) : State × Reply := (s, ⟨.ok, data⟩)

/-! ## The host-silence timer (R193, R194) -/

/-- The timer as step 3 of R187 leaves it: a full interval, or STOPPED where the interval is 0. -/
def freshSilence (interval : Nat) : SilenceTimer :=
  if interval = 0 then .stopped else .running (interval * Config.millisecond)

def restartSilence (s : State) : State :=
  { s with link := { s.link with silence := freshSilence s.settings.hostSilence } }

/-- The host-silence timer expires (R193, R194). It can do so only while it runs. -/
def expireSilence (s : State) : State :=
  match s.link.silence with
  | .running _ => report .hostSilent true { s with link := { s.link with silence := .expired } }
  | .stopped | .expired => s

/-! ## The exchange (R185, R187, R200) -/

/-- The bytes of a response. Only an OK response carries data (R200). -/
def responseBytes (commandCode : Byte) (r : Reply) (notices : Nat) : List Byte :=
  let data := if r.code = .ok then r.data else []
  sealed (bytes2 (BitVec.ofNat 16 (data.length + 7)) ++
    [commandCode, BitVec.ofNat 8 (responseCode r.code), BitVec.ofNat 8 (saturate 255 notices)] ++ data)

/-- Steps 1 and 2 of R187. -/
def carryOut (body : State → State × Reply) (s : State) : State × Reply := body (report .hostSilent false s)

/-- Step 4 of R187: the response pending, with the notice count at this moment. -/
def composeResponse (commandCode : Byte) (r : Reply) (s : State) : State :=
  { s with link := { s.link with response := some (responseBytes commandCode r s.link.notices.length) } }

/-- The bytes the GL40 clocked out in this select (R185). -/
def noteSent (bytes : List Byte) (s : State) : State := { s with link := { s.link with sent := bytes } }

/-- A command message taken: the four steps of R187. Zero bytes went out meanwhile (R185). -/
def takeMessage (msg : List Byte) (body : State → State × Reply) (s : State) : State :=
  let done := carryOut body s
  noteSent (List.replicate msg.length 0#8) (composeResponse (msg.getD 2 0#8) done.2 (restartSilence done.1))

/-- The bytes a pending response gives in a select of n whole bytes: its first n, then zero bytes (R185). -/
def clockedBytes (response : List Byte) (n : Nat) : List Byte :=
  response.take n ++ List.replicate (n - response.length) 0#8

/-- A select of n whole bytes in RESPONSE phase: the response goes out, and leaves when it was clocked out whole
(R185). -/
def clockResponse (response : List Byte) (n : Nat) (s : State) : State :=
  noteSent (clockedBytes response n)
    (if response.length ≤ n then { s with link := { s.link with response := none } } else s)

/-- A select in which the host clocks in a command message: taken in COMMAND phase, lost in RESPONSE phase (R185). -/
def exchange (msg : List Byte) (body : State → State × Reply) (s : State) : State :=
  match s.link.response with
  | some response => clockResponse response msg.length s
  | none => if msg.isEmpty then noteSent [] s else takeMessage msg body s

/-- A select in which the host sends a host command by its message (R185, 11.3). -/
def sendCommand (c : Instr) (body : State → State × Reply) (s : State) : State :=
  exchange ((encodeMessage c).getD []) body s

/-- A select of n whole bytes that reads the pending response; with none pending there is nothing to read (log 4). -/
def readPending (n : Nat) (s : State) : State :=
  match s.link.response with
  | some response => clockResponse response n s
  | none => s

/-! ## A select bit by bit (R185) -/

/-- The byte of eight bits, the most significant first (R185). -/
def byteOfBits (bits : List Bool) : Byte := BitVec.ofNat 8 (bits.foldl (fun n bit => 2 * n + bit.toNat) 0)

/-- The whole bytes of the bits clocked in; a partial last byte is dropped (R185). -/
def wholeBytes : List Bool → List Byte
  | b7 :: b6 :: b5 :: b4 :: b3 :: b2 :: b1 :: b0 :: rest =>
    byteOfBits [b7, b6, b5, b4, b3, b2, b1, b0] :: wholeBytes rest
  | _ => []

/-- The bit the GL40 sends with bit k of a select: the pending response's, each byte most significant bit first, and 0
beyond its end and in COMMAND phase (R185). -/
def Link.bitSent (l : Link) (k : Nat) : Bool :=
  match l.response with
  | some response => (response.getD (k / 8) 0#8).getMsbD (k % 8)
  | none => false

/-- The bit on the GL40's data line: the one that goes out with the next clock of this select (R185). -/
def Link.dataOut (l : Link) : Bool := l.bitSent l.bits.length

/-- The command that a select of one or more whole bytes spells in COMMAND phase (R185, R186). -/
def spelled (msg : List Byte) : Instr :=
  match parseMessage msg with
  | .ok c => c
  | .error _ => .unknownCommand msg

/-- The command that a released select hands over, by the phase: none where no whole byte came in COMMAND phase
(R185). -/
def selectCommand (l : Link) : Option Instr :=
  let msg := wholeBytes l.bits
  match l.response with
  | some _ => some (.pendingResponseRead msg.length)
  | none => if msg.isEmpty then none else some (spelled msg)

/-- The select line asserted: a select begins (R185). -/
def Link.asserted (l : Link) : Link := if l.select then l else { l with select := true, bits := [] }

/-- One bit clocked, in and out at once; without select the clock is not the station's (R185). -/
def Link.clocked (bit : Bool) (l : Link) : Link := if l.select then { l with bits := l.bits ++ [bit] } else l

/-- The select line released: what the select handed over is queued (R185). -/
def releaseSelect (s : State) : State :=
  if s.link.select then
    { s with
      link := { s.link with
        select := false, bits := [], sent := if (selectCommand s.link).isSome then s.link.sent else [] }
      pending := (selectCommand s.link).toList }
  else s

/-- The host's next act on its lines is over. -/
def nextEdge (rest : List HostEdge) (s : State) : State := { s with link := { s.link with edges := rest } }

/-- One act of the host on its lines, a pause apart (R185). -/
def takeEdge (e : HostEdge) (s : State) : State :=
  match e with
  | .select => { s with link := s.link.asserted }
  | .clock bit => { s with link := s.link.clocked bit }
  | .release => releaseSelect s
  | .pause => s

/-! ## Meanings -/

/-- PENDING_RESPONSE_READ (R185). -/
def execPendingResponseRead (bytes : Nat) (s : State) : Outcome := .next (readPending bytes s)

/-- HOST_SILENCE_EXPIRY (R193, R194). -/
def execHostSilenceExpiry (s : State) : Outcome := .next (expireSilence s)

end Sys2Proof.Machine
end

