-- ==== Sys2Proof/Machine/Servo.lean ====
section
/-! DEFINITION. The servo loop: intake of load and displacement (R49, R52), the control period (R50, R53 to R59), the
unload ramp and its settle test (R60 to R62). -/

namespace Sys2Proof.Machine

open Sys2Proof

/-! ## Intake -/

/-- A load sample (R49, R51). A fault code is discarded. -/
def takeLoad (v : BitVec 24) (s : State) : State :=
  match sampleValue v with
  | none => s
  | some l =>
    let servo := { s.servo with load := some l, loadSeen := true, stale := 0, peak := max s.servo.peak l }
    report .loadStale (loadStaleCondition s.settings servo) { s with servo := servo }

/-- A displacement sample (R52). A fault code changes nothing. -/
def takeDisplacement (v : BitVec 24) (s : State) : State :=
  match sampleValue v with
  | none => s
  | some d =>
    let servo := { s.servo with displacement := some d }
    report .stroke (strokeCondition s.settings servo) { s with servo := servo }

/-! ## The stages of the control period (R53) -/

/-- Stage 1: the period counted for staleness (R50). -/
def countStale (v : Servo) : Servo :=
  { v with stale := if v.loadSeen then v.stale else saturate 255 (v.stale + 1), loadSeen := false }

/-- Stage 1 with the report of a LOAD_STALE rise (R50). -/
def staleStage (s : State) : State :=
  let servo := countStale s.servo
  report .loadStale (loadStaleCondition s.settings servo) { s with servo := servo }

/-- The unload setpoint moved toward the unload floor (R60). -/
def unloadToward (st : Settings) (setpoint : Int) : Int :=
  if (st.unloadFloor - setpoint).natAbs ≤ st.unloadStep then st.unloadFloor
  else if setpoint < st.unloadFloor then setpoint + st.unloadStep
  else setpoint - st.unloadStep

/-- Stage 3: the target (R54, R60). The posture is the one the program unit's work has left (log 40). -/
def targetStage (s : State) : State :=
  if s.posture = .unload then
    let u := unloadToward s.settings s.servo.unloadSetpoint
    { s with servo := { s.servo with unloadSetpoint := u, target := u } }
  else
    { s with
      servo :=
        { s.servo with
          target := clampTo s.settings.floor s.settings.ceiling (s.program.counts + s.peers.trim) } }

/-- The error of stage 4 (R55). -/
def loopError (target load : Int) : Int := clampTo (-1048575) 1048575 (target - load)

/-- The proportional term of stage 4 (R55). -/
def proportional (st : Settings) (e : Int) : Int := roundDiv (st.kp * e) 4096

/-- Stage 5: the integrator, held in the direction in which the last command was pinned (R56). -/
def integrate (st : Settings) (e : Int) (dir : SatDir) (i : Int) : Int :=
  let step := roundDiv (st.ki * e) 65536
  if (dir = .plus ∧ 0 < step) ∨ (dir = .minus ∧ step < 0) then i
  else clampTo (-st.integratorLimit) st.integratorLimit (i + step)

/-- The direction in which stage 6 clamps a command (R57). -/
def satDirOf (st : Settings) (u : Int) : SatDir :=
  if (st.valveLimit : Int) < u then .plus else if u < -st.valveLimit then .minus else .zero

/-- Stage 7: the valve code (R58). -/
def slew (st : Settings) (last u : Int) : Int :=
  clampTo (-st.valveLimit) st.valveLimit (clampTo (last - st.slewLimit) (last + st.slewLimit) u)

/-- Stages 4 to 8 on the loop's own values, from the target of stage 3 and the latest load (R55 to R59). -/
def loopStages (st : Settings) (load : Int) (v : Servo) : Servo :=
  let e := loopError v.target load
  let i := integrate st e v.satDir v.integrator
  let u := proportional st e + i
  let dir := satDirOf st u
  { v with
    error := e
    integrator := i
    satDir := dir
    satCount := if dir = .zero then 0 else saturate 65535 (v.satCount + 1)
    valve := slew st v.valve (clampTo (-st.valveLimit) st.valveLimit u)
    followCount := if st.followingLimit < e.natAbs then saturate 65535 (v.followCount + 1) else 0 }

/-- Stages 4 to 8 with their reports, FOLLOWING before VALVE_SAT, each condition as it stands when reported (R53; log
10). -/
def loopStage (s : State) : State :=
  let computed := { s with servo := loopStages s.settings s.loadNow s.servo }
  let followed := report .following (followingCondition s.settings computed.servo) computed
  report .valveSat (valveSatCondition followed.settings followed.servo) followed

/-- The settle count at stage 9: 0 at the expiry at which the unload setpoint reaches the floor, then one more at each
(R61). None where the test does not run. -/
def settleCountNow (s : State) : Option Nat :=
  match s.servo.settle with
  | .notStarted => if s.servo.unloadSetpoint = s.settings.unloadFloor then some 0 else none
  | .testing => some (saturate 65535 (s.servo.settleCount + 1))
  | .ended => none

/-- What the settle test finds at stage 9: none, unload settled, or settle time exceeded (R61). -/
def settleResult (s : State) : Option UnloadOutcome :=
  match settleCountNow s with
  | none => none
  | some n =>
    if (s.loadNow - s.settings.unloadFloor).natAbs ≤ s.settings.settleBand then some .complete
    else if s.settings.settleTime ≤ n then some .incomplete
    else none

/-- Stage 9: the settle test and the end of the unload it brings (R18, R61). -/
def settleStage (s : State) : State :=
  match settleCountNow s with
  | none => s
  | some n =>
    match settleResult s with
    | none => { s with servo := { s.servo with settle := .testing, settleCount := n } }
    | some o => endUnload none o { s with servo := { s.servo with settle := .ended, settleCount := n } }

/-- Stages 3 to 8 in a loop posture; true where stage 9 follows, the posture being still UNLOAD (R53). -/
def loopToStage8 (s : State) : State × Bool :=
  let looped := loopStage (targetStage s)
  (looped, decide (s.posture = .unload) && decide (looped.posture = .unload))

/-- The control period timer runs again (00, Time). -/
def rearmControl (s : State) : State := { s with timers := { s.timers with control := Config.controlPeriod } }

/-- Stage 1 and the program unit's work at the same expiry (R53). -/
def beforeLoop (s : State) : State := programExpiry (staleStage (rearmControl s))

/-- A control period expiry (R53). Stages 3 to 9 read the posture that the program unit's work leaves (log 40); stage 2
asks for IDLE and SAFE alone, which that work never enters. -/
def controlPeriod (s : State) : State :=
  let s := beforeLoop s
  if s.posture = .idle ∨ s.posture = .safe then { s with servo := { s.servo with valve := 0 } }
  else if (loopToStage8 s).2 then settleStage (loopToStage8 s).1
  else (loopToStage8 s).1

/-- At this expiry the stale counter reaches the stale limit, so that LOAD_STALE rises (R50). -/
def staleRises (s : State) : Bool :=
  !(s.entry .loadStale).condition && loadStaleCondition s.settings (countStale s.servo)

/-- At this expiry the settle test finds its time exceeded (R61). -/
def settleExceeds (s : State) : Bool :=
  let b := beforeLoop s
  decide (b.posture = .unload) && (loopToStage8 b).2 &&
    decide (settleResult (loopToStage8 b).1 = some .incomplete)

end Sys2Proof.Machine
end

