-- ==== Sys2Proof/Machine/Settings.lean ====
section
/-! DEFINITION. SET and GET (R188, R189), with the re-evaluations that the owning chapters give for each setting, and the
station's reset (R197). -/

namespace Sys2Proof.Machine

open Sys2Proof

/-! ## The line controller and the peer table at a SET (R87, R107) -/

/-- The line at a change of the station id to 0: the slots emptied, a back-off ended, QUIET once no attempt and no break
is driven (R87). -/
def silenceLine (l : Line) : Line :=
  { l with
    unloadSlot := {}
    holdSlot := {}
    reportSlot := none
    wait := 0
    tx :=
      match l.tx with
      | .sending f => .sending f
      | .breaking bit => .breaking bit
      | .quiet | .defer | .backoff => .quiet }

/-- The station id changed: the generator reseeded, the line by R87, and the entry that holds the new id removed
(R107). -/
def idChanged (s : State) : State :=
  let id := s.settings.stationId
  let seeded := { s.line with generator := BitVec.ofNat 16 id }
  removePeers .ownId (fun e => decide (e.id = id))
    (setLine (if id = 0 then silenceLine seeded else settleTx id seeded) s)

/-- The own group changed: every entry of another group removed (R107). -/
def groupChanged (s : State) : State := removePeers .ownGroup (fun e => decide (e.group ≠ s.settings.group)) s

/-! ## The frame ports at a SET (R25) -/

/-- A line's condition reported from its debounced level and its enable (R24, R25). -/
def reportInterlock (i : Fin 4) (s : State) : State :=
  report (.interlock i) (interlockCondition s.settings.interlock[i] s.ports[i]) s

/-- A change of a line's latch mode to EDGE drops the entry's pending ack (R4). -/
def lineModeChanged (i : Fin 4) (s : State) : State :=
  if s.settings.interlock[i].mode = .edge then dropAck (.interlock i) s else s

/-! ## The strain unit at a SET (R136, R143, R153, R160) -/

/-- A channel's drift record at its reset values (R153). -/
def resetDriftRecord (i : Fin 32) (s : State) : State := setDriftRecord i {} s

/-- A channel turned on (R136, R153). -/
def strainEnabled (i : Fin 32) (s : State) : State :=
  let fresh :=
    setStrainChannel i
      { s.strain.channels[i] with
        band := .within, aboveCount := 0, belowCount := 0, last := none, clampFlag := false, extremes := none } s
  if s.settings.strain[i].driftWatch then resetDriftRecord i fresh else fresh

/-- A channel turned off (R136, R148). -/
def strainDisabled (i : Fin 32) (s : State) : State :=
  abandonZeroing i .disabled
    (setStrainChannel i { s.strain.channels[i] with band := .disabled, aboveCount := 0, belowCount := 0 } s)

/-- A change of a channel's enable, with the three evaluations it brings (R142, R143, R160). STRAIN is reported before
DRIFT (log 38). -/
def strainEnableChanged (i : Fin 32) (s : State) : State :=
  evalDrift
    (evalDerate (evalStrain i (if s.settings.strain[i].enable then strainEnabled i s else strainDisabled i s)))

/-- A change of a channel's drift-watch (R153, R160). -/
def driftWatchChanged (i : Fin 32) (s : State) : State :=
  evalDrift (if watchedChannel s.settings.strain[i] then resetDriftRecord i s else s)

/-! ## The crack unit at a SET (R166, R182, R4) -/

/-- A change of a crack channel's enable (R166). -/
def crackEnableChanged (i : Fin 8) (s : State) : State :=
  setDetector i (if s.settings.crack[i].enable then .quiet else .disabled) s

/-- A change of a crack channel's latch mode to EDGE drops a pending ack of the entry and of the channel's latch (R4,
R181). -/
def crackModeChanged (i : Fin 8) (s : State) : State :=
  if s.settings.crack[i].mode = .edge then
    setCrackChannel i
      { s.crack.channels[i] with alarm := { s.crack.channels[i].alarm with ackPending := false } }
      (dropAck (.crack i) s)
  else s

/-! ## SET (R188) -/

/-- A channel or line number within its bound. -/
def withIndex (n index : Nat) (f : Fin n → State → State) (s : State) : State :=
  if h : index < n then f ⟨index, h⟩ s else s

/-- The re-evaluations that a change of a setting brings, by its number. -/
def settingChanged (number index : Nat) (s : State) : State :=
  match number with
  | 1 => idChanged s
  | 2 => groupChanged s
  | 5 | 6 | 23 => reclampQueue s
  | 17 | 18 => report .stroke (strokeCondition s.settings s.servo) s
  | 19 => report .loadStale (loadStaleCondition s.settings s.servo) s
  | 26 => withIndex 4 index reportInterlock s
  | 28 => withIndex 4 index lineModeChanged s
  | 39 => withIndex 32 index strainEnableChanged s
  | 48 => evalDerate s
  | 49 => withIndex 32 index evalStrain s
  | 50 => withIndex 32 index driftWatchChanged s
  | 53 => evalDrift s
  | 55 => withIndex 8 index crackEnableChanged s
  | 63 => withIndex 8 index (evalCrack true) s
  | 64 => withIndex 8 index crackModeChanged s
  | _ => s

/-- An accepted SET: a value already held changes nothing (R188). -/
def applySetting (number index : Nat) (v : Int) (s : State) : State :=
  if readSetting number index s.settings = v then s
  else settingChanged number index { s with settings := writeSetting number index v s.settings }

def cmdSet (number index : Nat) (v : Int) (s : State) : State × Reply :=
  if s.posture ≠ .idle then refuse .busy s
  else if settingAllowed number index v s.settings = false then refuse .range s
  else
    accept (applySetting number index v s)
      (be 4 (readSetting number index (applySetting number index v s).settings))

def cmdGet (number index : Nat) (s : State) : State × Reply :=
  if settingExists number index then accept s (be 4 (readSetting number index s.settings)) else refuse .range s

/-! ## Reset (R197) -/

/-- A line's port after reset: the level is CLOSED, and an input that reads OPEN starts the timer at once (R24). -/
def resetPort (p : PortLine) : PortLine :=
  { inputOpen := p.inputOpen, debouncedOpen := false,
    timer := if p.inputOpen then some (State.reset.settings.debounceTime * Config.millisecond) else none }

/-- The whole station reset (R197): every block at its state after reset. What stands outside the station is not
reset: the interlock inputs, what the other drivers of the hall line do, the host's lines of the link, and the model's
own queue and counter (logs 7 and 41). -/
def resetStation (s : State) : State :=
  { State.reset with
    ports := tabulate fun i => resetPort s.ports[i]
    line :=
      { State.reset.line with
        space := s.line.space, carrier := s.line.carrier, heard := s.line.heard, tapped := s.line.tapped }
    link := { State.reset.link with select := s.link.select, edges := s.link.edges }
    draws := s.draws
    pending := s.pending }

def cmdReset (s : State) : State × Reply := accept (resetStation s) []

/-! ## Meanings -/

/-- POWER_ON_RESET (R197). -/
def execPowerOnReset (s : State) : Outcome := .next (resetStation s)

/-- RESET (R197). -/
def execReset (s : State) : Outcome := .next (sendCommand .reset cmdReset s)

/-- SET (R188). -/
def execSet (setting index : Byte) (value : BitVec 32) (s : State) : Outcome :=
  .next (sendCommand (.set setting index value) (cmdSet setting.toNat index.toNat value.toInt) s)

/-- GET (R189). -/
def execGet (setting index : Byte) (s : State) : Outcome :=
  .next (sendCommand (.get setting index) (cmdGet setting.toNat index.toNat) s)

end Sys2Proof.Machine
end

