-- ==== Sys2Proof/Machine/Commands.lean ====
section
/-! DEFINITION. The host commands other than SET, GET and RESET: what each does and answers once its message has passed
the checks of R186, and the meanings of their rows. -/

namespace Sys2Proof.Machine

open Sys2Proof

/-! ## Posture commands (R20 to R23) -/

/-- The five checks of R20 in their order; the first that fails. -/
def startCheck (s : State) : Option RespCode :=
  if s.settings.stationId = 0 ∨ s.settings.group = 0 then some .noId
  else if ¬(s.settings.floor ≤ s.settings.unloadFloor ∧ s.settings.unloadFloor ≤ s.settings.ceiling) then some .range
  else if (s.entry .loadStale).condition then some .stale
  else if (s.entry .peerUnload).condition then some .peerDown
  else if s.startBlocked then some .causes
  else none

/-- The program setpoint a START sets, in whole counts (R20). -/
def startCounts (s : State) : Int := clampTo s.settings.floor s.settings.ceiling s.loadNow

/-- The loop, the trim, the setpoint and the records as an accepted START leaves them (R20, R63). -/
def prepareStart (s : State) : State :=
  { s with
    holdRecord := none
    unloadRecord := none
    program := { s.program with setpoint := startCounts s * 256 }
    peers := { s.peers with trim := 0 }
    servo :=
      { s.servo with integrator := 0, valve := 0, target := startCounts s, settle := .notStarted, settleCount := 0 } }

/-- START into HOLD, its peers holding (R20, R46). -/
def startHeld (s : State) : State :=
  takeIntoFlight (dropDemand (changePosture .hold none none (writeHoldRecord .peerHold s)))

/-- An accepted START (R20). -/
def startStation (s : State) : State :=
  if (s.entry .peerHold).condition then startHeld (prepareStart s) else enterRun none (prepareStart s)

def cmdStart (s : State) : State × Reply :=
  if s.posture ≠ .idle then refuse .busy s
  else
    match startCheck s with
    | some code => refuse code s
    | none => accept (startStation s) []

def cmdHold (s : State) : State × Reply :=
  match s.posture with
  | .run | .hold => accept (pulse .holdCmd s) []
  | .idle | .unload | .safe => refuse .busy s

def cmdUnload (s : State) : State × Reply :=
  match s.posture with
  | .run | .hold | .unload => accept (pulse .unloadCmd s) []
  | .idle | .safe => refuse .busy s

def cmdResume (s : State) : State × Reply :=
  if s.posture ≠ .hold then refuse .busy s
  else if s.holdLatched then refuse .causes s
  else accept (enterRun none s) []

/-- An accepted CLEAR: the program emptied, the trim 0, and IDLE, with a POSTURE notice where the posture changes (R23,
R46). -/
def clearStation (s : State) : State :=
  let emptied := { s with program := clearProgram s.program, peers := { s.peers with trim := 0 } }
  dropDemand (if s.posture = .idle then emptied else changePosture .idle none none emptied)

def cmdClear (s : State) : State × Reply :=
  match s.posture with
  | .run | .hold | .unload => refuse .busy s
  | .idle => accept (clearStation s) []
  | .safe => if s.clearBlocked then refuse .causes s else accept (clearStation s) []

/-! ## The load program (R30, R33) -/

def cmdAppend (seg : SegReq) (inspect : Bool) (s : State) : State × Reply :=
  match requestBody seg with
  | none => refuse .format s
  | some body =>
    if s.posture = .unload ∨ s.posture = .safe then refuse .busy s
    else if Config.segmentPlaces ≤ s.program.queue.length then refuse .full s
    else
      accept (queueSegment body inspect s)
        (be 2 s.program.nextToAssign.toNat ++ byteOf (appendedSegment body inspect s).clamped)

def cmdFlush (s : State) : State × Reply :=
  accept (flushQueue s) (be 1 (s.program.queue.length - (flushQueue s).program.queue.length : Nat))

/-! ## Acknowledgement (R9) -/

/-- The acknowledgement of a CRACK entry passed on to its channel's alarm latch (R9). -/
def passAck (exit : Bool) (c : Cause) (s : State) : State :=
  match c with
  | .crack i => ackChannel exit i s
  | _ => s

/-- One acknowledgement of an entry and, for CRACK, of its channel's latch (R9). -/
def acknowledge (exit : Bool) (c : Cause) (s : State) : State := passAck exit c (ackEntry exit c s)

def cmdAck (kind index : Nat) (s : State) : State × Reply :=
  match Cause.ofCodes kind index with
  | some c => accept (acknowledge true c s) []
  | none => refuse .range s

/-- Every entry acknowledged in table order, and HOLD exit evaluated once after the last (R9, R15). -/
def acknowledgeAll (s : State) : State := holdExit none (Cause.all.foldl (fun s c => acknowledge false c s) s)

def cmdAckAll (s : State) : State × Reply := accept (acknowledgeAll s) []

/-! ## Strain, peak and peers (R51, R106, R145, R146) -/

/-- ZERO starts or restarts the operation on each named channel that is enabled (R146). -/
def startZeroing (mask : BitVec 32) (s : State) : State :=
  { s with
    strain :=
      { s.strain with
        channels := tabulate fun i =>
          if zeroStarts mask s i then { s.strain.channels[i] with zeroing := some {} } else s.strain.channels[i] } }

/-- The mask of the channels on which zeroing starts (R146). -/
def startedMask (mask : BitVec 32) (s : State) : Nat :=
  ((List.finRange 32).map fun i => if zeroStarts mask s i then 2 ^ i.val else 0).sum

def cmdZero (mask : BitVec 32) (s : State) : State × Reply :=
  match s.posture with
  | .idle | .hold => accept (startZeroing mask s) (be 4 (startedMask mask s : Nat))
  | .run | .unload | .safe => refuse .busy s

/-- The maximum and minimum of all 32 channels emptied (R145). -/
def clearExtremes (s : State) : State :=
  { s with
    strain :=
      { s.strain with channels := tabulate fun i => { s.strain.channels[i] with extremes := none } } }

def cmdClearExtremes (s : State) : State × Reply := accept (clearExtremes s) []

def clearPeak (s : State) : State := { s with servo := { s.servo with peak := -Config.maxLoad } }

def cmdClearPeak (s : State) : State × Reply :=
  match s.posture with
  | .idle | .hold => accept (clearPeak s) []
  | .run | .unload | .safe => refuse .busy s

/-- An entry with the id is held. -/
def holdsPeer (id : Nat) (s : State) : Bool := s.peers.entries.any fun e => decide (e.id = id)

/-- FORGET of an id (R106). -/
def forgetPeer (id : Nat) (s : State) : State :=
  if holdsPeer id s then removePeers .forget (fun e => decide (e.id = id)) s else s

def cmdForget (id : Nat) (s : State) : State × Reply :=
  if id = 0 then refuse .range s else accept (forgetPeer id s) (byteOf (holdsPeer id s))

/-! ## Reads (R92, R110, R150, R162, R176, R191, R195, R196) -/

def cmdReadStatus (s : State) : State × Reply := accept s (statusRecord s)

def cmdReadCauses (s : State) : State × Reply := accept s (causesData s)

def cmdReadRecords (s : State) : State × Reply := accept s (recordsData s)

def cmdReadPeers (s : State) : State × Reply := accept s (peersData s)

def cmdReadStrain (s : State) : State × Reply := accept s (strainData s)

def cmdReadDrift (s : State) : State × Reply := accept s (driftData s)

/-- Up to 8 records leave the head of the hit FIFO (R176). -/
def dropHits (s : State) : State := { s with crack := { s.crack with fifo := s.crack.fifo.drop Config.readBatch } }

def cmdReadHits (s : State) : State × Reply :=
  accept (dropHits s) (hitsData (s.crack.fifo.take Config.readBatch) (dropHits s))

/-- Up to 8 entries leave the head of the notice queue (R191). -/
def dropNotices (s : State) : State :=
  { s with link := { s.link with notices := s.link.notices.drop Config.readBatch } }

def cmdReadNotices (s : State) : State × Reply :=
  accept (dropNotices s) (noticesData (s.link.notices.take Config.readBatch) (dropNotices s))

/-- The seven line status flags cleared (R92). -/
def clearFlags (l : Line) : Line :=
  { l with
    noise := false, framing := false, crcError := false, formatError := false, lateCollision := false,
    dropped := false, breakHeard := false }

def cmdReadLine (s : State) : State × Reply := accept (setLine (clearFlags s.line) s) (lineData s)

/-! ## A message as its bytes (R186) -/

/-- The command of a message that passed the checks, at its own acceptance tests (R186). -/
def commandBody : Instr → State → State × Reply
  | .set n i v => cmdSet n.toNat i.toNat v.toInt
  | .get n i => cmdGet n.toNat i.toNat
  | .start => cmdStart
  | .hold => cmdHold
  | .resume => cmdResume
  | .unload => cmdUnload
  | .clear => cmdClear
  | .append seg inspect => cmdAppend seg inspect
  | .flush => cmdFlush
  | .ack k i => cmdAck k.toNat i.toNat
  | .ackAll => cmdAckAll
  | .zero mask => cmdZero mask
  | .clearExtremes => cmdClearExtremes
  | .clearPeak => cmdClearPeak
  | .forget id => cmdForget id.toNat
  | .readStatus => cmdReadStatus
  | .readCauses => cmdReadCauses
  | .readRecords => cmdReadRecords
  | .readPeers => cmdReadPeers
  | .readStrain => cmdReadStrain
  | .readDrift => cmdReadDrift
  | .readHits => cmdReadHits
  | .readNotices => cmdReadNotices
  | .readLine => cmdReadLine
  | .reset => cmdReset
  | _ => refuse .unknown

/-- A message by its bytes: refused by the check it fails (R186), else its command. -/
def messageBody (msg : List Byte) : State → State × Reply :=
  match parseMessage msg with
  | .error code => refuse code
  | .ok c => commandBody c

/-! ## Meanings -/

/-- START (R20). -/
def execStart (s : State) : Outcome := .next (sendCommand .start cmdStart s)

/-- HOLD (R21). -/
def execHold (s : State) : Outcome := .next (sendCommand .hold cmdHold s)

/-- RESUME (R22). -/
def execResume (s : State) : Outcome := .next (sendCommand .resume cmdResume s)

/-- UNLOAD (R21). -/
def execUnload (s : State) : Outcome := .next (sendCommand .unload cmdUnload s)

/-- CLEAR (R23). -/
def execClear (s : State) : Outcome := .next (sendCommand .clear cmdClear s)

/-- APPEND (R30). -/
def execAppend (seg : SegReq) (inspect : Bool) (s : State) : Outcome :=
  .next (sendCommand (.append seg inspect) (cmdAppend seg inspect) s)

/-- FLUSH (R33). -/
def execFlush (s : State) : Outcome := .next (sendCommand .flush cmdFlush s)

/-- ACK (R9). -/
def execAck (kind index : Byte) (s : State) : Outcome :=
  .next (sendCommand (.ack kind index) (cmdAck kind.toNat index.toNat) s)

/-- ACK ALL (R9). -/
def execAckAll (s : State) : Outcome := .next (sendCommand .ackAll cmdAckAll s)

/-- ZERO (R146). -/
def execZero (mask : BitVec 32) (s : State) : Outcome := .next (sendCommand (.zero mask) (cmdZero mask) s)

/-- CLEAR EXTREMES (R145). -/
def execClearExtremes (s : State) : Outcome := .next (sendCommand .clearExtremes cmdClearExtremes s)

/-- CLEAR PEAK (R51). -/
def execClearPeak (s : State) : Outcome := .next (sendCommand .clearPeak cmdClearPeak s)

/-- FORGET (R106). -/
def execForget (id : Byte) (s : State) : Outcome := .next (sendCommand (.forget id) (cmdForget id.toNat) s)

/-- READ STATUS (R195). -/
def execReadStatus (s : State) : Outcome := .next (sendCommand .readStatus cmdReadStatus s)

/-- READ CAUSES (R196). -/
def execReadCauses (s : State) : Outcome := .next (sendCommand .readCauses cmdReadCauses s)

/-- READ RECORDS (R196). -/
def execReadRecords (s : State) : Outcome := .next (sendCommand .readRecords cmdReadRecords s)

/-- READ PEERS (R110). -/
def execReadPeers (s : State) : Outcome := .next (sendCommand .readPeers cmdReadPeers s)

/-- READ STRAIN (R150). -/
def execReadStrain (s : State) : Outcome := .next (sendCommand .readStrain cmdReadStrain s)

/-- READ DRIFT (R162). -/
def execReadDrift (s : State) : Outcome := .next (sendCommand .readDrift cmdReadDrift s)

/-- READ HITS (R176). -/
def execReadHits (s : State) : Outcome := .next (sendCommand .readHits cmdReadHits s)

/-- READ NOTICES (R191). -/
def execReadNotices (s : State) : Outcome := .next (sendCommand .readNotices cmdReadNotices s)

/-- READ LINE (R92). -/
def execReadLine (s : State) : Outcome := .next (sendCommand .readLine cmdReadLine s)

/-- A command message given by its bytes (R186). -/
def execUnknownCommand (message : List Byte) (s : State) : Outcome := .next (exchange message (messageBody message) s)

end Sys2Proof.Machine
end

