-- ==== Sys2Proof/Machine/Events.lean ====
section
/-! DEFINITION. The timer expiries, the interlock inputs and the sample arrivals, as the meanings of their rows. A row
whose trigger does not hold in the state it meets has no effect (log 4). -/

namespace Sys2Proof.Machine

open Sys2Proof

/-! ## Control period (R50, R53, R61) -/

/-- CONTROL_PERIOD_EXPIRY (R53). -/
def execControlPeriodExpiry (s : State) : Outcome := .next (controlPeriod s)

/-- LOAD_STALE: the control period expiry at which the stale counter reaches the stale limit (R50). -/
def execLoadStale (s : State) : Outcome := .next (if staleRises s then controlPeriod s else s)

/-- SETTLE_TIME_EXCEEDED: the control period expiry at which the settle test finds its time exceeded (R61). -/
def execSettleTimeExceeded (s : State) : Outcome := .next (if settleExceeds s then controlPeriod s else s)

/-! ## The other timers (R89, R103, R177) -/

/-- The line controller's work at its report period expiry: the timer runs again with the setting in force, the break
is repeated if due, and the report slot is filled (R78, R89). -/
def reportPeriodLine (s : State) : State :=
  let rearmed := { s with timers := { s.timers with report := s.settings.reportPeriod * Config.millisecond } }
  fillReport (if rearmed.breakDue then askBreak rearmed else rearmed)

/-- An own report period expiry (R89, R104). -/
def reportPeriod (s : State) : State := agingPass (reportPeriodLine s)

/-- REPORT_PERIOD_EXPIRY (R89). -/
def execReportPeriodExpiry (s : State) : Outcome := .next (reportPeriod s)

/-- A chatter window expiry (R103). -/
def chatterExpiry (s : State) : State :=
  closeChatterWindow { s with timers := { s.timers with chatter := Config.chatterWindow } }

/-- CHATTER_WINDOW_EXPIRY (R103). -/
def execChatterWindowExpiry (s : State) : Outcome := .next (chatterExpiry s)

/-- A rate window expiry: the timer runs again with the setting in force (R165, R177). -/
def rateExpiry (s : State) : State :=
  closeRateWindow { s with timers := { s.timers with rateWindow := s.settings.rateWindow * Config.rateUnit } }

/-- RATE_WINDOW_EXPIRY (R177). -/
def execRateWindowExpiry (s : State) : Outcome := .next (rateExpiry s)

/-! ## Interlock lines (R24) -/

def setPort (i : Fin 4) (p : PortLine) (s : State) : State := { s with ports := s.ports.set i p }

/-- A line whose input changes to a level: the timer starts or restarts where the level is not the debounced one, and
stops where it is (R24). -/
def changeInput (debounce : Nat) (isOpen : Bool) (p : PortLine) : PortLine :=
  if p.inputOpen = isOpen then p
  else
    { p with
      inputOpen := isOpen
      timer := if isOpen ≠ p.debouncedOpen then some (debounce * Config.millisecond) else none }

/-- INTERLOCK_INPUT_CHANGE (R24). -/
def execInterlockInputChange (line : Fin 4) (isOpen : Bool) (s : State) : Outcome :=
  .next (setPort line (changeInput s.settings.debounceTime isOpen s.ports[line]) s)

/-- A debounce timer expires (R24). It can do so only while it runs. -/
def debounced (line : Fin 4) (s : State) : State :=
  if s.ports[line].timer.isSome then
    reportInterlock line
      (setPort line { s.ports[line] with debouncedOpen := s.ports[line].inputOpen, timer := none } s)
  else s

/-- DEBOUNCE_EXPIRY (R24). -/
def execDebounceExpiry (line : Fin 4) (s : State) : Outcome := .next (debounced line s)

/-! ## Samples (R49, R52, R137, R167) -/

/-- LOAD_SAMPLE (R49). -/
def execLoadSample (value : BitVec 24) (s : State) : Outcome := .next (takeLoad value s)

/-- DISPLACEMENT_SAMPLE (R52). -/
def execDisplacementSample (value : BitVec 24) (s : State) : Outcome := .next (takeDisplacement value s)

/-- STRAIN_SAMPLE (R137). -/
def execStrainSample (channel : Fin 32) (value : BitVec 24) (s : State) : Outcome :=
  .next (takeStrainSample channel value s)

/-- ENVELOPE_SAMPLE (R167). -/
def execEnvelopeSample (channel : Fin 8) (value : Byte) (s : State) : Outcome :=
  .next (takeEnvelope channel value s)

/-- HIT_END: the envelope sample at which a hit ends (R169, R170, R174). -/
def execHitEnd (channel : Fin 8) (value : Byte) (s : State) : Outcome :=
  .next (if endsHit channel value s then takeEnvelope channel value s else s)

/-- LOCKOUT_END: the envelope sample at which a lockout ends (R170). -/
def execLockoutEnd (channel : Fin 8) (value : Byte) (s : State) : Outcome :=
  .next (if endsLockout channel value s then takeEnvelope channel value s else s)

end Sys2Proof.Machine
end

