-- ==== Sys2Proof/Machine/Dispatch.lean ====
section
/-! DEFINITION. The meaning of every command: one arm per row of the table, one call of its meaning each. -/

namespace Sys2Proof.Machine

open Sys2Proof

def exec (i : Instr) (s : State) : Host.Outcome State Fault Refusal :=
  match i with
  | .powerOnReset => Sys2Proof.Machine.execPowerOnReset s
  | .reset => Sys2Proof.Machine.execReset s
  | .set setting index value => Sys2Proof.Machine.execSet setting index value s
  | .get setting index => Sys2Proof.Machine.execGet setting index s
  | .start => Sys2Proof.Machine.execStart s
  | .hold => Sys2Proof.Machine.execHold s
  | .resume => Sys2Proof.Machine.execResume s
  | .unload => Sys2Proof.Machine.execUnload s
  | .clear => Sys2Proof.Machine.execClear s
  | .append segment inspect => Sys2Proof.Machine.execAppend segment inspect s
  | .flush => Sys2Proof.Machine.execFlush s
  | .ack kind index => Sys2Proof.Machine.execAck kind index s
  | .ackAll => Sys2Proof.Machine.execAckAll s
  | .zero mask => Sys2Proof.Machine.execZero mask s
  | .clearExtremes => Sys2Proof.Machine.execClearExtremes s
  | .clearPeak => Sys2Proof.Machine.execClearPeak s
  | .forget id => Sys2Proof.Machine.execForget id s
  | .readStatus => Sys2Proof.Machine.execReadStatus s
  | .readCauses => Sys2Proof.Machine.execReadCauses s
  | .readRecords => Sys2Proof.Machine.execReadRecords s
  | .readPeers => Sys2Proof.Machine.execReadPeers s
  | .readStrain => Sys2Proof.Machine.execReadStrain s
  | .readDrift => Sys2Proof.Machine.execReadDrift s
  | .readHits => Sys2Proof.Machine.execReadHits s
  | .readNotices => Sys2Proof.Machine.execReadNotices s
  | .readLine => Sys2Proof.Machine.execReadLine s
  | .unknownCommand message => Sys2Proof.Machine.execUnknownCommand message s
  | .pendingResponseRead bytes => Sys2Proof.Machine.execPendingResponseRead bytes s
  | .controlPeriodExpiry => Sys2Proof.Machine.execControlPeriodExpiry s
  | .loadStale => Sys2Proof.Machine.execLoadStale s
  | .settleTimeExceeded => Sys2Proof.Machine.execSettleTimeExceeded s
  | .reportPeriodExpiry => Sys2Proof.Machine.execReportPeriodExpiry s
  | .chatterWindowExpiry => Sys2Proof.Machine.execChatterWindowExpiry s
  | .rateWindowExpiry => Sys2Proof.Machine.execRateWindowExpiry s
  | .hostSilenceExpiry => Sys2Proof.Machine.execHostSilenceExpiry s
  | .interlockInputChange line isOpen => Sys2Proof.Machine.execInterlockInputChange line isOpen s
  | .debounceExpiry line => Sys2Proof.Machine.execDebounceExpiry line s
  | .loadSample value => Sys2Proof.Machine.execLoadSample value s
  | .displacementSample value => Sys2Proof.Machine.execDisplacementSample value s
  | .strainSample channel value => Sys2Proof.Machine.execStrainSample channel value s
  | .envelopeSample channel value => Sys2Proof.Machine.execEnvelopeSample channel value s
  | .hitEnd channel value => Sys2Proof.Machine.execHitEnd channel value s
  | .lockoutEnd channel value => Sys2Proof.Machine.execLockoutEnd channel value s
  | .frameReceived chars stop noisy => Sys2Proof.Machine.execFrameReceived chars stop noisy s
  | .breakRecognised => Sys2Proof.Machine.execBreakRecognised s
  | .receiverHuntResume => Sys2Proof.Machine.execReceiverHuntResume s
  | .attemptStart => Sys2Proof.Machine.execAttemptStart s
  | .frameSent => Sys2Proof.Machine.execFrameSent s
  | .contention bit => Sys2Proof.Machine.execContention bit s
  | .backoffEnd => Sys2Proof.Machine.execBackoffEnd s
  | .breakEnd => Sys2Proof.Machine.execBreakEnd s
  | .falseStart noisy => Sys2Proof.Machine.execFalseStart noisy s
  | .lineReturnsToMark => Sys2Proof.Machine.execLineReturnsToMark s

end Sys2Proof.Machine
end

