-- ==== Sys2Proof/Machine/Tick.lean ====
section
/-! DEFINITION. The tick: what one bit time of 1 µs brings on an empty queue (log 1). -/

namespace Sys2Proof.Machine

open Sys2Proof

/-! ## One bit time -/

/-- The host-silence timer one µs on (R193). -/
def SilenceTimer.tick : SilenceTimer → SilenceTimer
  | .running left => .running (left - 1)
  | .stopped => .stopped
  | .expired => .expired

/-- The transmitter one bit time on: the attempt and the break count what they have driven (R70, R88). -/
def Tx.tick : Tx → Tx
  | .sending f => .sending { f with bit := f.bit + 1 }
  | .breaking bit => .breaking (bit + 1)
  | .quiet => .quiet
  | .defer => .defer
  | .backoff => .backoff

/-- The line one bit time on: the inputs of the bit time, the idle count, the space count, the attempt or break driven,
and the back-off wait (R69, R79, R84, R88, R90). -/
def Line.tick (l : Line) : Line :=
  let h := l.hear
  { h with
    tx := l.tx.tick
    wait := l.wait - 1
    idleCount := if l.driving || h.carrier then 0 else saturate 65535 (l.idleCount + 1)
    spaceCount := if l.driving then 0 else if h.space then l.spaceCount + 1 else 0 }

def Timers.tick (t : Timers) : Timers :=
  { control := t.control - 1, report := t.report - 1, chatter := t.chatter - 1, rateWindow := t.rateWindow - 1 }

/-- One bit time of 1 µs passes: the station time and every timer move on (00, Time). -/
def advance (s : State) : State :=
  { s with
    time := s.time + 1
    timers := s.timers.tick
    line := s.line.tick
    ports := tabulate fun i => { s.ports[i] with timer := s.ports[i].timer.map (· - 1) }
    link := { s.link with silence := s.link.silence.tick }
    draws := s.draws + 1 }

/-! ## What falls due -/

/-- The attempt has run to its end (R70, R82). -/
def Line.sentDue (l : Line) : Bool :=
  match l.tx with
  | .sending f => decide (frameBits f.bytes ≤ f.bit)
  | _ => false

/-- The break has run its 40 bit times (R88). -/
def Line.breakDone (l : Line) : Bool :=
  match l.tx with
  | .breaking bit => decide (Config.breakBits ≤ bit)
  | _ => false

/-- The back-off wait is over (R84). -/
def Line.backoffDue (l : Line) : Bool := decide (l.tx = .backoff) && decide (l.wait = 0)

/-- An attempt starts at once: a slot is pending in DEFER, and the idle count stands at 20 or more (R79). -/
def Line.attemptDue (l : Line) : Bool :=
  decide (l.tx = .defer) && l.anyPending && decide (Config.deferBits ≤ l.idleCount)

/-- The receiver may hunt again (R76). -/
def Line.huntDue (l : Line) : Bool :=
  decide (l.rx = .waiting) && !l.driving && decide (Config.huntBits ≤ l.idleCount)

/-- The space count has just reached 30 (R90). -/
def Line.breakHeardDue (l : Line) : Bool :=
  !l.driving && l.space && decide (l.spaceCount = Config.breakRecognition)

/-- The timer expiries with whether each falls due at this bit time. -/
def timerEvents (s : State) : List (Bool × Instr) :=
  [(s.timers.control == 0, .controlPeriodExpiry), (s.timers.report == 0, .reportPeriodExpiry),
    (s.timers.chatter == 0, .chatterWindowExpiry), (s.timers.rateWindow == 0, .rateWindowExpiry),
    (s.link.silence == .running 0, .hostSilenceExpiry), (s.ports[0].timer == some 0, .debounceExpiry 0),
    (s.ports[1].timer == some 0, .debounceExpiry 1), (s.ports[2].timer == some 0, .debounceExpiry 2),
    (s.ports[3].timer == some 0, .debounceExpiry 3)]

/-- The hall line's own events, with whether each falls due at this bit time; an attempt that meets contention at its
last bit time is not sent (R82). -/
def lineEvents (contended : Bool) (l : Line) : List (Bool × Instr) :=
  [(l.sentDue && !contended, .frameSent), (l.breakDone, .breakEnd), (l.backoffDue, .backoffEnd),
    (l.huntDue, .receiverHuntResume), (l.breakHeardDue, .breakRecognised)]

/-- The events that fall due as one bit time passes. -/
def dueEvents (s : State) : List Instr :=
  ((timerEvents (advance s) ++ lineEvents s.line.contended.isSome (advance s).line).filter Prod.fst).map Prod.snd ++
    s.line.heardEvents

/-- An event with its free rank placed into a list by rank (log 2). -/
def insertDue (e : Nat × Instr) : List (Nat × Instr) → List (Nat × Instr)
  | [] => [e]
  | x :: xs => if e.1 ≤ x.1 then e :: x :: xs else x :: insertDue e xs

/-- Events that fall due together, in an order the manual leaves open (log 2). -/
def freeOrder (draw : Nat) (es : List Instr) : List Instr :=
  ((es.mapIdx fun k e => (Config.dueRank draw k, e)).foldr insertDue []).map Prod.snd

/-- One bit time passes, and what falls due in it is queued. -/
def passBitTime (s : State) : State := { advance s with pending := freeOrder s.draws (dueEvents s) }

/-- An empty queue: an attempt that may start does so at once (R79); otherwise the host's next act on the link's lines
is taken, and where it pauses or does nothing more, one bit time passes (logs 1 and 41). -/
def tick (s : State) : State :=
  if s.line.attemptDue then { s with pending := [.attemptStart] }
  else
    match s.link.edges with
    | [] => passBitTime s
    | .pause :: rest => passBitTime (nextEdge rest s)
    | e :: rest => takeEdge e (nextEdge rest s)

end Sys2Proof.Machine
end

