-- ==== Sys2Proof/Safety.lean ====
section
/-! DEFINITION. What the rules promise of every state a run reaches: one law for each block, each with the rule that
states it. -/

namespace Sys2Proof.Safety

open Sys2Proof Sys2Proof.Machine

/-- A sequence number k places after another, wrapping (R29). -/
def seqAfter (q : BitVec 16) (k : Nat) : BitVec 16 := q + BitVec.ofNat 16 k

/-- The law of the cause table (R13): in RUN no entry of class HOLD, UNLOAD or SAFE is latched, in HOLD none of class
UNLOAD or SAFE, in UNLOAD none of class SAFE. The FOLLOW entry's latch equals its condition (R8). -/
abbrev causeLaw (s : State) : Prop :=
  (∀ c ∈ Cause.all, (s.entry c).latched = true →
    (s.posture = .run → classOf s.settings c = .report) ∧
    (s.posture = .hold → classOf s.settings c = .report ∨ classOf s.settings c = .hold) ∧
    (s.posture = .unload → classOf s.settings c ≠ .safe)) ∧
  (s.entry .peerHold).latched = (s.entry .peerHold).condition

/-- A station in HOLD has a HOLD-class entry latched or waits for RESUME (R15, R22). -/
abbrev holdLaw (s : State) : Prop := s.posture = .hold → s.holdLatched = true ∨ s.resumeRequired = true

/-- The two records (R14, R16, R17, R26): written in HOLD and in UNLOAD, the outcome PENDING until the unload ends, the
later-cause list of at most 8 with its overflow count of at most 255. -/
abbrev recordLaw (s : State) : Prop :=
  (s.posture = .hold → s.holdRecord.isSome = true) ∧
  (s.posture = .unload → s.unloadRecord.map (fun r => r.outcome) = some .pending) ∧
  (∀ r ∈ s.unloadRecord, r.later.length ≤ 8 ∧ r.overflow ≤ 255)

/-- The servo loop (R47, R58, R65, R66): valve code and integrator inside their limits, and the loop at rest in IDLE and
SAFE. -/
abbrev loopLaw (s : State) : Prop :=
  -(s.settings.valveLimit : Int) ≤ s.servo.valve ∧ s.servo.valve ≤ s.settings.valveLimit ∧
  -(s.settings.integratorLimit : Int) ≤ s.servo.integrator ∧ s.servo.integrator ≤ s.settings.integratorLimit ∧
  (s.posture = .idle ∨ s.posture = .safe →
    s.servo.valve = 0 ∧ s.servo.integrator = 0 ∧ s.servo.satDir = .zero ∧ s.servo.satCount = 0 ∧
      s.servo.followCount = 0)

/-- The share trim (R113, R114): inside the trim limit, and 0 in IDLE and SAFE. -/
abbrev trimLaw (s : State) : Prop :=
  -(s.settings.trimLimit : Int) ≤ s.peers.trim ∧ s.peers.trim ≤ s.settings.trimLimit ∧
  (s.posture = .idle ∨ s.posture = .safe → s.peers.trim = 0)

/-- The segment queue (R29, R34): at most 32 segments with consecutive sequence numbers from last completed + 1, next to
assign behind them; one in flight only where one is queued and not in IDLE; none waiting in RUN or HOLD with none in
flight. The paced and starved flags are clear out of RUN (R43, R44). -/
abbrev programLaw (s : State) : Prop :=
  s.program.queue.length ≤ 32 ∧
  s.program.queue.map (fun g => g.seq) =
    (List.range s.program.queue.length).map (fun k => seqAfter s.program.lastCompleted (k + 1)) ∧
  s.program.nextToAssign = seqAfter s.program.lastCompleted (s.program.queue.length + 1) ∧
  (s.program.flight.isSome = true → s.program.queue ≠ [] ∧ s.posture ≠ .idle) ∧
  (s.posture = .run ∨ s.posture = .hold → s.program.flight = none → s.program.queue = []) ∧
  (s.posture ≠ .run → s.program.paced = false ∧ s.program.starved = false)

/-- An entry is an OVERFLOW. -/
def isOverflow (e : NoticeEntry) : Bool :=
  match e.notice with
  | .overflow _ _ => true
  | _ => false

/-- The notice queue (R190): at most 32 entries, and the 32nd place taken by OVERFLOW alone. -/
abbrev noticeLaw (s : State) : Prop :=
  s.link.notices.length ≤ 32 ∧ (s.link.notices.length = 32 → s.link.notices.getLast?.map isOverflow = some true)

/-- The hit FIFO (R175): at most 64 records, the pending gap at most 255. -/
abbrev hitLaw (s : State) : Prop := s.crack.fifo.length ≤ 64 ∧ s.crack.gap ≤ 255

/-- The peer table (R94, R107): at most 24 entries, in strictly ascending station id from 1 to 255, none with the
station's own id. -/
abbrev tableLaw (s : State) : Prop :=
  s.peers.entries.length ≤ 24 ∧ s.peers.entries.Pairwise (fun a b => a.id < b.id) ∧
  ∀ e ∈ s.peers.entries, 1 ≤ e.id ∧ e.id ≤ 255 ∧ e.id ≠ s.settings.stationId

/-- The three peer conditions are those of the table (R108). -/
abbrev peerConditionLaw (s : State) : Prop :=
  (s.entry .peerHold).condition = peerHoldCondition s.settings.group s.peers.entries ∧
  (s.entry .peerUnload).condition = peerUnloadCondition s.settings.group s.peers.entries ∧
  (s.entry .peerLost).condition = peerLostCondition s.settings.group s.peers.entries

/-- A slot's counts at rest: one attempt at least may still follow (R78, R86). -/
abbrev restingCounts (k : SlotCounts) : Prop := k.attempts ≤ 15 ∧ k.collisions ≤ k.attempts

/-- A slot's counts while its frame is in flight (R86). -/
abbrev flyingCounts (k : SlotCounts) : Prop := k.attempts ≤ 16 ∧ k.collisions + 1 ≤ k.attempts

/-- The counts a slot shows while its frame is in flight or not. A slot filled anew since its frame in flight was
emptied out of it shows counts of 0 (log 18). -/
abbrev slotCountsLaw (flying : Bool) (k : Option SlotCounts) : Prop :=
  ∀ c ∈ k, if flying then flyingCounts c ∨ c = {} else restingCounts c

/-- The frame in flight of a slot. -/
def flightOf (l : Line) : Option Flight :=
  match l.tx with
  | .sending f => some f
  | _ => none

/-- The law of the hall line (R86): no frame is attempted more than 16 times. -/
abbrev lineLaw (s : State) : Prop :=
  (∀ f ∈ flightOf s.line, flyingCounts f.counts) ∧
  slotCountsLaw (s.line.inFlight .unload) (s.line.unloadSlot.pending.map Prod.snd) ∧
  slotCountsLaw (s.line.inFlight .hold) (s.line.holdSlot.pending.map Prod.snd) ∧
  slotCountsLaw (s.line.inFlight .report) s.line.reportSlot

/-- The strain causes (R142): each STRAIN condition is its channel's, and its entry is latched while it is true. -/
abbrev strainLaw (s : State) : Prop :=
  ∀ i : Fin 32,
    (s.entry (.strain i)).condition = strainCondition s.settings.strain[i] s.strain.channels[i] ∧
    ((s.entry (.strain i)).condition = true → (s.entry (.strain i)).latched = true)

/-- The crack causes (R182): each CRACK condition is its channel's, and its entry is latched while it is true. -/
abbrev crackLaw (s : State) : Prop :=
  ∀ i : Fin 8,
    (s.entry (.crack i)).condition = crackCondition s.settings.crack[i] s.crack.channels[i] ∧
    ((s.entry (.crack i)).condition = true → (s.entry (.crack i)).latched = true)

/-- The derate demand is that of the DERATE channels (R143). -/
abbrev derateLaw (s : State) : Prop := s.strain.derateDemand = derateCondition s.settings s.strain

/-- A value lies in the range of the setting with this number (R201). -/
def inSettingRange (number : Nat) (v : Int) : Bool := (settingRange number).any fun r => r.2 v

/-- Every setting lies in its range (R188, R201), and a zeroing's sum is one of fewer than 64 valid samples, so that its
mean lies in the zero offset's (R146, R147). -/
abbrev settingsLaw (s : State) : Prop :=
  (∀ number < 71, ∀ index < 32, settingExists number index = true →
    inSettingRange number (readSetting number index s.settings) = true) ∧
  ∀ i : Fin 32, ∀ z ∈ s.strain.channels[i].zeroing,
    z.count ≤ 63 ∧ z.sum.natAbs ≤ z.count * 8388607

/-- The station's hold demand (R121): the outgoing hold time is the hold renew time while the posture is HOLD and a
HOLD-class entry other than PEER_HOLD is latched, and 0 otherwise. -/
abbrev demandLaw (s : State) : Prop :=
  s.line.holdTime = if s.posture = .hold ∧ s.ownHoldLatched = true then s.settings.holdRenewTime else 0

end Sys2Proof.Safety
end

