-- ==== Sys2Proof/WellFormed.lean ====
section
/-! DEFINITION. Which commands can come about: operands that the interfaces can hand over. A meaning is total on all
operands; these checks say which of them the rules speak of. -/

namespace Sys2Proof

/-- A message of UNKNOWN_COMMAND has at least one byte and fails a check of R186. -/
def failsChecks (m : List Byte) : Bool :=
  !m.isEmpty &&
    (match parseMessage m with
    | .ok _ => false
    | .error _ => true)

/-- The characters of a FRAME_RECEIVED end with the frame: one that is no sync byte stands alone, and none stands
behind the second CRC byte (R74). -/
def frameCharsFit (chars : List Byte) : Bool :=
  match chars with
  | [] => false
  | c :: rest =>
    if c = syncByte then
      (match frameLength chars with
      | some n => chars.length ≤ n
      | none => true)
    else rest.isEmpty

/-- The operands of a command are ones its interface can hand over. -/
def Instr.wellFormed : Instr → Bool
  | .append (.unknown kind _) _ => kind ≠ 1#8 && kind ≠ 2#8 && kind ≠ 3#8
  | .unknownCommand m => failsChecks m
  | .frameReceived chars _ _ => frameCharsFit chars
  | .contention bit => bit < 200
  | .powerOnReset | .reset | .set _ _ _ | .get _ _ | .start | .hold | .resume | .unload | .clear | .append _ _ => true
  | .flush | .ack _ _ | .ackAll | .zero _ | .clearExtremes | .clearPeak | .forget _ | .readStatus | .readCauses => true
  | .readRecords | .readPeers | .readStrain | .readDrift | .readHits | .readNotices | .readLine => true
  | .pendingResponseRead _ | .controlPeriodExpiry | .loadStale | .settleTimeExceeded | .reportPeriodExpiry => true
  | .chatterWindowExpiry | .rateWindowExpiry | .hostSilenceExpiry | .interlockInputChange _ _ | .debounceExpiry _ => true
  | .loadSample _ | .displacementSample _ | .strainSample _ _ | .envelopeSample _ _ | .hitEnd _ _ => true
  | .lockoutEnd _ _ | .breakRecognised | .receiverHuntResume | .attemptStart | .frameSent | .backoffEnd | .breakEnd => true
  | .falseStart _ | .lineReturnsToMark => true

end Sys2Proof
end

