-- ==== Sys2Proof/Certificates/Slice0/Obligations.lean ====
section
/-! DEFINITION. The statements about the GL40 that are to be proved, and the few words they are written in. -/

namespace Sys2Proof.Claims

open Sys2Proof Sys2Proof.Machine

/-- COMMAND phase, the HOST_SILENT condition false: the next select carries a command that finds nothing else to do
first (R185, R187). What HOST_SILENT's fall does is in `EveryCommandTakenIsAnswered`. -/
abbrev Ready (s : State) : Prop := s.link.response = none ∧ (s.entry .hostSilent).condition = false

/-- The link after a command was taken: its response pending with the notices counted at the end, the host-silence timer
restarted with the interval in force (R187, R193, R200). -/
abbrev Answers (code : Byte) (resp : RespCode) (data : List Byte) (t : State) : Prop :=
  t.link.response = some (responseBytes code ⟨resp, data⟩ t.link.notices.length) ∧
  t.link.silence =
    (if t.settings.hostSilence = 0 then .stopped else .running (t.settings.hostSilence * 1000))

/-- The link after an exchange: the response, the notices, the host-silence timer and the bytes sent of the state
after it, and the host's lines as they were (R184, R185). -/
abbrev exchanged (s t : State) : Link :=
  { s.link with
    response := t.link.response, notices := t.link.notices, silence := t.link.silence, sent := t.link.sent }

/-- The command answers, and changes nothing but the link's exchange (R187). -/
abbrev AnswersOnly (c : Instr) (code : Byte) (resp : RespCode) (data : List Byte) (s : State) : Prop :=
  ∃ t, exec c s = .next t ∧ t = { s with link := exchanged s t } ∧ t.link.notices = s.link.notices ∧
    Answers code resp data t

/-- The postures in which the table of 10.2 answers BUSY. -/
def busyIn : Posture → Instr → Bool
  | .idle, .hold | .idle, .resume | .idle, .unload => true
  | .run, .set _ _ _ | .run, .start | .run, .resume | .run, .clear | .run, .zero _ | .run, .clearPeak => true
  | .hold, .set _ _ _ | .hold, .start | .hold, .clear => true
  | .unload, .set _ _ _ | .unload, .start | .unload, .hold | .unload, .resume | .unload, .clear => true
  | .unload, .append (.ramp _ _) _ | .unload, .append (.dwell _) _ | .unload, .append (.cycle _ _ _ _ _) _ => true
  | .unload, .zero _ | .unload, .clearPeak => true
  | .safe, .set _ _ _ | .safe, .start | .safe, .hold | .safe, .resume | .safe, .unload => true
  | .safe, .append (.ramp _ _) _ | .safe, .append (.dwell _) _ | .safe, .append (.cycle _ _ _ _ _) _ => true
  | .safe, .zero _ | .safe, .clearPeak => true
  | _, _ => false

/-- START finds floor ≤ unload floor ≤ ceiling (R20). -/
abbrev limitsOrdered (s : State) : Prop :=
  s.settings.floor ≤ s.settings.unloadFloor ∧ s.settings.unloadFloor ≤ s.settings.ceiling

/-- A START passes its five checks (R20). -/
abbrev startable (s : State) : Prop :=
  s.settings.stationId ≠ 0 ∧ s.settings.group ≠ 0 ∧ limitsOrdered s ∧ (s.entry .loadStale).condition = false ∧
  (s.entry .peerUnload).condition = false ∧
  ∀ c ∈ Cause.all, c ≠ .peerHold → classOf s.settings c ≠ .report → (s.entry c).latched = false

/-- A load has arrived, and the stale counter stays below the stale limit at the next control period expiry (R50). -/
abbrev loadFresh (s : State) : Prop :=
  s.servo.load.isSome = true ∧ (s.entry .loadStale).condition = false ∧ s.servo.stale < s.settings.staleLimit ∧
  s.settings.staleLimit ≤ 255 ∧ (s.servo.loadSeen = true ∨ s.servo.stale + 1 < s.settings.staleLimit)

/-- A new segment's generator state (R28). -/
def firstState (setpoint : Int) (seg : Segment) : Generator :=
  match seg.body with
  | .ramp _ _ => .ramp setpoint
  | .dwell _ => .dwell 0
  | .cycle _ _ _ _ _ => .cycle false 0 0 false

/-- The settings whose change brings a re-evaluation (R32, R50, R52, R25, R4, R87, R107, R135, R136, R153, R160, R165,
R166, R182). -/
def reevaluated : List Nat := [1, 2, 5, 6, 17, 18, 19, 23, 26, 28, 39, 48, 49, 50, 53, 55, 63, 64]

/-- The loop raises neither FOLLOWING nor VALVE_SAT at the next control period (R57, R59). -/
abbrev loopQuiet (s : State) : Prop :=
  (s.entry .following).condition = false ∧ s.servo.followCount + 1 < s.settings.followingCount ∧
  (s.entry .valveSat).condition = false ∧ s.servo.satCount + 1 < s.settings.valveSatLimit

/-- The loop after stages 1 and 4 to 8 of a control period with a fresh load and target T: the stale counter, the
clamped error, the integrator with its anti-windup and limit, the saturation direction and count, the valve code through
limit and slew, and the following counter (R50, R55 to R59). -/
def loopAfter (s : State) (T : Int) : Servo :=
  let V : Int := s.settings.valveLimit
  let e := min (max (T - s.loadNow) (-1048575)) 1048575
  let d := roundDiv (s.settings.ki * e) 65536
  let i := if (s.servo.satDir = .plus ∧ 0 < d) ∨ (s.servo.satDir = .minus ∧ d < 0) then s.servo.integrator
    else min (max (s.servo.integrator + d) (-s.settings.integratorLimit)) s.settings.integratorLimit
  let u := roundDiv (s.settings.kp * e) 4096 + i
  { s.servo with
    stale := if s.servo.loadSeen then s.servo.stale else s.servo.stale + 1
    loadSeen := false, target := T, error := e, integrator := i
    satDir := if V < u then .plus else if u < -V then .minus else .zero
    satCount := if V < u ∨ u < -V then min (s.servo.satCount + 1) 65535 else 0
    valve := min (max (min (max (min (max u (-V)) V) (s.servo.valve - s.settings.slewLimit))
      (s.servo.valve + s.settings.slewLimit)) (-V)) V
    followCount := if s.settings.followingLimit < e.natAbs then min (s.servo.followCount + 1) 65535 else 0 }

/-- The target of a control period in RUN or HOLD, at a fine setpoint (R54). -/
abbrev targetAt (s : State) (setpoint : Int) : Int :=
  min (max (setpoint.tdiv 256 + s.peers.trim) s.settings.floor) s.settings.ceiling

/-- The loop as an entry into SAFE leaves it (R65). -/
def atRest (v : Servo) : Servo :=
  { v with valve := 0, integrator := 0, satDir := .zero, satCount := 0, followCount := 0, settle := .ended }

/-- The program does not advance: in HOLD, and in RUN while paced or starved (R35). -/
abbrev ProgramStands (s : State) : Prop :=
  s.posture = .hold ∨ (s.posture = .run ∧ (s.program.paced = true ∨ s.program.starved = true))

/-- The program unit after a control period in which it does not advance: the derated flag and the half-step marker
follow the demand, and setpoint, queue and generator stand (R35, R41). -/
abbrev standing (s : State) : Program :=
  { s.program with derated := s.strain.derateDemand, halfStep := s.program.halfStep && s.strain.derateDemand }

/-- A generator whose begun cycle is marked interrupted (R40). -/
def interrupted : Generator → Generator
  | .cycle true p n _ => .cycle true p n true
  | w => w

/-- The program unit as a posture change leaves it: one out of RUN clears the paced and the starved flag and marks the
cycle in flight (R40, R43, R44). -/
abbrev outOfRun (s : State) (p : Program) : Program :=
  if s.posture = .run then { p with paced := false, starved := false, flight := p.flight.map interrupted } else p

/-- The pacing evaluation that ends the peer table's work, from s to t (R117, R118): made in RUN, over the entries of
the pacing set; setting the flag marks the cycle in flight (R40). -/
abbrev Paces (s t : State) : Prop :=
  t.posture = .run →
    ((∀ e ∈ t.peers.entries, inPacingSet s.settings.group e = true →
        leadOver t.program.progress e ≤ ((s.settings.leadLimit / 2 : Nat) : Int)) → t.program.paced = false) ∧
    (s.settings.leadLimit ≠ 0 →
      (∃ e ∈ t.peers.entries, inPacingSet s.settings.group e = true ∧
        (s.settings.leadLimit : Int) < leadOver t.program.progress e) → t.program.paced = true) ∧
    (s.settings.leadLimit = 0 → t.program.paced = false) ∧
    (s.posture = .run →
      (∀ e ∈ t.peers.entries, inPacingSet s.settings.group e = true →
        leadOver t.program.progress e ≤ s.settings.leadLimit) →
      (∃ e ∈ t.peers.entries, inPacingSet s.settings.group e = true ∧
        ((s.settings.leadLimit / 2 : Nat) : Int) < leadOver t.program.progress e) →
      t.program.paced = s.program.paced) ∧
    (s.posture = .run → s.program.paced = false ∨ t.program.paced = false →
      t.program = { s.program with
        paced := t.program.paced
        flight := if t.program.paced then s.program.flight.map interrupted else s.program.flight })

/-- The control period in which the segment in flight moves on: the program unit as given, the loop after the stages
with its target on the setpoint, and nothing else but the timer and the strain unit as given (R35, R41, R54). -/
abbrev Steps (s : State) (setpoint : Int) (w : Generator) (half : Bool) (strain : Strain) : Prop :=
  ∃ t, exec .controlPeriodExpiry s = .next t ∧
    t.program = { s.program with
      setpoint := setpoint, flight := some w, derated := s.strain.derateDemand, halfStep := half } ∧
    t.servo = loopAfter s (targetAt s setpoint) ∧
    t = { s with program := t.program, servo := t.servo, strain := strain, timers := { s.timers with control := 1000 } }

/-- The control period in which a segment without inspect completes (R42, R43): the next is taken into flight at the
setpoint reached, or the station starves; the loop works on the setpoint reached (R54). -/
abbrev Completes (s : State) (g : Segment) (rest : List Segment) (setpoint : Int) : Prop :=
  ∃ t, exec .controlPeriodExpiry s = .next t ∧
    t.program = { s.program with
      queue := rest, flight := rest.head?.map (firstState setpoint), lastCompleted := g.seq, setpoint := setpoint
      starved := rest.isEmpty, derated := s.strain.derateDemand, halfStep := t.program.halfStep } ∧
    t.servo = loopAfter s (targetAt s setpoint) ∧
    (s.link.notices.length ≤ 29 → t.link.notices = s.link.notices ++
      ⟨s.time, .segmentDone g.seq g.body.kind false⟩ :: (if rest.isEmpty then [⟨s.time, .starved g.seq⟩] else [])) ∧
    t = { s with program := t.program, servo := t.servo, timers := { s.timers with control := 1000 }
                 link := { s.link with notices := t.link.notices } }

/-- INSPECT's entry clear, so that a completion can latch it. -/
abbrev InspectReady (s : State) : Prop := (s.entry .inspect).condition = false ∧ (s.entry .inspect).latched = false

/-- The control period in which a segment with inspect completes (R42): the next is taken into flight, and INSPECT
holds the station. -/
abbrev CompletesHeld (s : State) (g : Segment) (rest : List Segment) (setpoint : Int) : Prop :=
  ∃ t, exec .controlPeriodExpiry s = .next t ∧ t.posture = .hold ∧ (t.entry .inspect).latched = true ∧
    (t.entry .inspect).condition = false ∧ (∀ d, d ≠ .inspect → t.entry d = s.entry d) ∧
    t.program.queue = rest ∧ t.program.lastCompleted = g.seq ∧ t.program.setpoint = setpoint ∧
    t.program.flight = rest.head?.map (firstState setpoint) ∧ t.program.starved = false ∧
    t.servo = loopAfter s (targetAt s setpoint) ∧
    t.holdRecord = some ⟨.inspect, s.time, setpoint.tdiv 256, s.loadNow, true⟩ ∧ t.unloadRecord = s.unloadRecord ∧
    (s.link.notices.length ≤ 28 → t.link.notices.take (s.link.notices.length + 1) =
      s.link.notices ++ [⟨s.time, .segmentDone g.seq g.body.kind false⟩])

/-- The control period in which a CYCLE is skipped, and PROGRAM brings HOLD (R14, R38). -/
abbrev Skips (s : State) (g : Segment) (rest : List Segment) : Prop :=
  ∃ t, exec .controlPeriodExpiry s = .next t ∧ t.posture = .hold ∧ (t.entry .program).latched = true ∧
    (t.entry .program).condition = false ∧ (∀ d, d ≠ .program → t.entry d = s.entry d) ∧
    t.program.queue = rest ∧ t.program.lastCompleted = g.seq ∧ t.program.setpoint = s.program.setpoint ∧
    t.program.flight = rest.head?.map (firstState s.program.setpoint) ∧
    t.servo = loopAfter s (targetAt s s.program.setpoint) ∧
    t.holdRecord = some ⟨.program, s.time, s.program.counts, s.loadNow, true⟩ ∧ t.strain = s.strain ∧
    t.peers = s.peers ∧ t.unloadRecord = s.unloadRecord

/-- An attempt starts at once: a slot pending in DEFER, the idle count at 20 or more (R79). -/
abbrev StartsAtOnce (s : State) : Prop := s.line.tx = .defer ∧ s.line.anyPending = true ∧ 20 ≤ s.line.idleCount

/-- One bit time passes on an empty queue: no attempt may start, and the host does nothing on its lines of the link. -/
abbrev TimePasses (s : State) : Prop :=
  ¬StartsAtOnce s ∧ (s.link.edges = [] ∨ s.link.edges.head? = some .pause)

/-- The bits of a message on a data line of the link: each byte most significant bit first (R185). -/
def messageBits (m : List Byte) : List Bool := m.flatMap (fun c => (List.range 8).map (fun k => c.getMsbD k))

/-- The majority of a bit's three samples reads space (R71). -/
abbrev majoritySpace (b : LineBit) : Prop :=
  (b.first = true ∧ b.second = true) ∨ (b.first = true ∧ b.third = true) ∨ (b.second = true ∧ b.third = true)

/-- A notice slot with a notice placed in it: behind a frame in flight as its successor, otherwise pending with counts 0
(R78, R80). -/
def placedIn (flying : Bool) (c : NoticeContent) (slot : NoticeSlot) : NoticeSlot :=
  if flying then ⟨slot.pending, some c⟩ else ⟨some (c, ⟨0, 0⟩), slot.successor⟩

/-- A value brought into a range: kept inside it, the nearer bound outside it, and the upper bound where the range is
empty (R31). -/
abbrev BroughtInto (lo hi x y : Int) : Prop :=
  (hi < lo → y = hi) ∧ (lo ≤ hi → (lo ≤ x → x ≤ hi → y = x) ∧ (x < lo → y = lo) ∧ (hi < x → y = hi))

/-- A station entry counted in an unload record's later causes (R17). -/
def listed (c : Cause) (r : UnloadRecord) : UnloadRecord :=
  if r.later.length < 8 then { r with later := r.later ++ [c] } else { r with overflow := min (r.overflow + 1) 255 }

/-- The own driver released and the transmitter at rest, in DEFER where a slot is pending (R69, R76, R79, R87). The idle
count of 0 at the release is the model's choice (log 34). -/
abbrev Released (s t : State) : Prop :=
  t.line.rx = .waiting ∧ t.line.idleCount = 0 ∧ t.line.spaceCount = 0 ∧
  t.line.tx = if s.settings.stationId ≠ 0 ∧ t.line.anyPending = true then .defer else .quiet

/-- A notice slot after its attempt: the successor with counts 0, or the notice with the counts it keeps, or empty (R80,
R82, R83). -/
def leftInSlot (keep : Option SlotCounts) (slot : NoticeSlot) : NoticeSlot :=
  match slot.successor, keep, slot.pending with
  | some c, _, _ => ⟨some (c, ⟨0, 0⟩), none⟩
  | none, some k, some p => ⟨some (p.1, k), none⟩
  | none, _, _ => ⟨none, none⟩

/-- The report slot after its attempt: the counts it keeps, or empty; one filled anew meanwhile stays (log 18). -/
def leftReport (keep : Option SlotCounts) : Option SlotCounts → Option SlotCounts
  | none => none
  | some k => if k.attempts = 0 then some k else keep

/-- The three slots after an attempt at one of them. -/
abbrev SlotsAfter (slot : SlotName) (keep : Option SlotCounts) (a b : Line) : Prop :=
  b.unloadSlot = (if slot = .unload then leftInSlot keep a.unloadSlot else a.unloadSlot) ∧
  b.holdSlot = (if slot = .hold then leftInSlot keep a.holdSlot else a.holdSlot) ∧
  b.reportSlot = (if slot = .report then leftReport keep a.reportSlot else a.reportSlot)

/-- The own driver is not active, and the receiver hunts (R74, R76). -/
abbrev Listens (s : State) : Prop := s.line.driving = false ∧ s.line.rx = .hunting

/-- An entry with the fields a REPORT carries (R95). -/
def reported (r : ReportFields) (e : Peer) : Peer :=
  { e with
    group := r.group.toNat
    weight := if r.weight = 0#8 then 1 else r.weight.toNat
    posture := if r.posture = 0#8 then .idle else if r.posture = 1#8 then .run else if r.posture = 2#8 then .hold
      else if r.posture = 3#8 then .unload else .safe
    paced := r.flags.getLsbD 0
    starved := r.flags.getLsbD 1
    derated := r.flags.getLsbD 2
    firstCause := r.cause.toNat
    progress := r.progress
    load := r.load.toInt }

/-- The notices of an update: PEER_BACK, then PEER_CHANGED (R100). -/
def updateNotes (time : BitVec 32) (before after : Peer) : List NoticeEntry :=
  (if before.lost then [⟨time, .peerBack before.id⟩] else []) ++
  (if before.group = after.group ∧ before.weight = after.weight then []
    else [⟨time, .peerChanged before.id before.group after.group before.weight after.weight⟩])

end Sys2Proof.Claims

open Sys2Proof Sys2Proof.Machine Sys2Proof.Claims Sys2Proof.Safety

/-! ## The machine and the exchange -/

/-- A step carries out the command at the front of the queue on the state with the queue's rest. -/
def Obligations.StepRunsTheFrontCommand : Prop :=
  ∀ (c : Instr) (rest : List Instr) (s : State), s.pending = c :: rest → step s = exec c { s with pending := rest }

/-- The model's choice (log 1): on an empty queue an attempt that may start does so at once (R79); otherwise one bit
time of 1 µs passes, every timer runs, and each expiry that falls due is queued once. What the bit time does to the
hall line is in `EveryBitTimeOfTheLineIsRead`, and what the host's acts on the link's lines do in
`PendingResponseIsClockedOut`. -/
def Obligations.EmptyQueueLetsOneBitTimePass : Prop :=
  ∀ s : State, s.pending = [] →
    (StartsAtOnce s → step s = .next { s with pending := [.attemptStart] }) ∧
    (TimePasses s → ∃ t, step s = .next t ∧
      t = { s with time := s.time + 1, timers := t.timers, line := t.line, ports := t.ports,
                   link := { s.link with silence := t.link.silence, edges := s.link.edges.tail }
                   draws := s.draws + 1, pending := t.pending } ∧
      t.timers = ⟨s.timers.control - 1, s.timers.report - 1, s.timers.chatter - 1, s.timers.rateWindow - 1⟩ ∧
      t.link.silence = (match s.link.silence with
        | .running left => .running (left - 1)
        | .stopped => .stopped
        | .expired => .expired) ∧
      (∀ i : Fin 4, t.ports[i] = { s.ports[i] with timer := s.ports[i].timer.map (fun left => left - 1) }) ∧
      (Instr.controlPeriodExpiry ∈ t.pending ↔ s.timers.control ≤ 1) ∧
      (Instr.reportPeriodExpiry ∈ t.pending ↔ s.timers.report ≤ 1) ∧
      (Instr.chatterWindowExpiry ∈ t.pending ↔ s.timers.chatter ≤ 1) ∧
      (Instr.rateWindowExpiry ∈ t.pending ↔ s.timers.rateWindow ≤ 1) ∧
      (Instr.hostSilenceExpiry ∈ t.pending ↔ s.link.silence = .running 0 ∨ s.link.silence = .running 1) ∧
      (∀ i : Fin 4, Instr.debounceExpiry i ∈ t.pending ↔ s.ports[i].timer = some 0 ∨ s.ports[i].timer = some 1) ∧
      t.pending.Nodup ∧ ∀ c ∈ t.pending, commandCode c = none)

/-- A bit time of the hall line on an empty queue, as its inputs are read (R69, R70, R71, R74, R83, R90): levels,
counts, the driven bits, and the events that fall due; and what a listening receiver makes of its bit. That the inputs
of the bit times to come stand in State, and that the other drivers do what they did where none stands there, is the
model's choice (log 6). -/
def Obligations.EveryBitTimeOfTheLineIsRead : Prop :=
  (∀ s : State, s.pending = [] → TimePasses s → ∃ t, step s = .next t ∧
    t.line = { s.line with
      tx := t.line.tx, wait := s.line.wait - 1, idleCount := t.line.idleCount, spaceCount := t.line.spaceCount
      space := t.line.space, carrier := t.line.carrier, noise := t.line.noise, taking := t.line.taking
      heard := s.line.heard.tail, tapped := !s.line.heard.isEmpty } ∧
    t.line.tx = (match s.line.tx with
      | .sending f => .sending { f with bit := f.bit + 1 }
      | .breaking n => .breaking (n + 1)
      | .quiet => .quiet
      | .defer => .defer
      | .backoff => .backoff) ∧
    t.line.idleCount = (if s.line.driving = true ∨ t.line.carrier = true then 0 else min (s.line.idleCount + 1) 65535) ∧
    t.line.spaceCount =
      (if s.line.driving = true then 0 else if t.line.space = true then s.line.spaceCount + 1 else 0) ∧
    (s.line.heard = [] → t.line.space = s.line.space ∧ t.line.carrier = s.line.carrier ∧ t.line.noise = s.line.noise ∧
      t.line.taking = s.line.taking) ∧
    (s.line.heard ≠ [] → ¬Listens s → t.line.taking = none) ∧
    (s.line.heard = [] ∨ ¬Listens s → ∀ c ∈ t.pending, ∀ chars stop noisy,
      c ≠ .frameReceived chars stop noisy ∧ c ≠ .falseStart noisy) ∧
    (∀ b, s.line.heard.head? = some b → t.line.carrier = b.carrier ∧ (t.line.space = true ↔ majoritySpace b) ∧
      (t.line.noise = true ↔
        s.line.noise = true ∨ (s.line.driving = false ∧ ¬(b.first = b.second ∧ b.second = b.third)))) ∧
    (∀ f, s.line.tx = .sending f →
      (∀ b, s.line.heard.head? = some b → b.carrier = true →
        Instr.contention f.bit ∈ t.pending ∧ Instr.frameSent ∉ t.pending) ∧
      ((s.line.heard.head?.map (fun b => b.carrier)).getD false = false →
        (Instr.frameSent ∈ t.pending ↔ 10 * (f.bytes.length + 1) ≤ f.bit + 1))) ∧
    (∀ n, s.line.tx = .breaking n → (Instr.breakEnd ∈ t.pending ↔ 40 ≤ n + 1)) ∧
    (s.line.tx = .backoff → (Instr.backoffEnd ∈ t.pending ↔ s.line.wait ≤ 1)) ∧
    (Instr.receiverHuntResume ∈ t.pending ↔
      s.line.rx = .waiting ∧ s.line.driving = false ∧ 10 ≤ t.line.idleCount) ∧
    (Instr.breakRecognised ∈ t.pending ↔
      s.line.driving = false ∧ t.line.space = true ∧ t.line.spaceCount = 30) ∧
    (Instr.lineReturnsToMark ∈ t.pending ↔
      s.line.driving = false ∧ s.line.framingPending = true ∧ s.line.heard ≠ [] ∧ t.line.space = false)) ∧
  (∀ (s : State) (b : LineBit), s.pending = [] → TimePasses s → s.line.heard.head? = some b → Listens s →
    ∃ t, step s = .next t ∧
      (s.line.taking = none →
        (s.line.space = true ∨ (b.falls || b.first || b.second || b.third) = false →
          t.line.taking = none ∧ ∀ c ∈ t.pending, ∀ chars stop noisy,
            c ≠ .frameReceived chars stop noisy ∧ c ≠ .falseStart noisy) ∧
        (s.line.space = false → majoritySpace b → t.line.taking = some ⟨[], [true]⟩) ∧
        (s.line.space = false → (b.falls || b.first || b.second || b.third) = true → ¬majoritySpace b →
          t.line.taking = none ∧
          Instr.falseStart (decide ¬(b.first = b.second ∧ b.second = b.third)) ∈ t.pending)) ∧
      (∀ r, s.line.taking = some r →
        (r.bits = [] → majoritySpace b → t.line.taking = some { r with bits := [true] }) ∧
        (r.bits = [] → ¬majoritySpace b →
          t.line.taking = none ∧ Instr.frameReceived r.chars .mark false ∈ t.pending) ∧
        (r.bits ≠ [] → r.bits.length < 9 →
          t.line.taking = some { r with bits := r.bits ++ [decide (majoritySpace b)] }) ∧
        (∀ c chars, r.bits = (List.range 9).map (characterLevel c) → chars = r.chars ++ [c] →
          (majoritySpace b → t.line.taking = none ∧ Instr.frameReceived chars .space false ∈ t.pending) ∧
          (¬majoritySpace b →
            (chars.head? ≠ some 0x6C#8 ∨ (frameLength chars).any (fun n => decide (n ≤ chars.length)) = true →
              t.line.taking = none ∧ Instr.frameReceived chars .mark false ∈ t.pending) ∧
            (chars.head? = some 0x6C#8 → (frameLength chars).all (fun n => decide (chars.length < n)) = true →
              t.line.taking = some ⟨chars, []⟩)))))

/-- Select in RESPONSE phase (R185): the pending response goes out from its first byte and leaves when clocked out
whole, and a command sent meanwhile is lost. Bit by bit: both data lines carry each byte most significant bit first,
the GL40's the response or zeros; a released select drops a partial last byte and hands over a command message in
COMMAND phase, none without a whole byte, and a read of the response in RESPONSE phase. The model's choices: in
COMMAND phase there is nothing to read (log 4), and the host's acts on its lines stand in State (log 41). -/
def Obligations.PendingResponseIsClockedOut : Prop :=
  (∀ (n : Nat) (s : State),
    (∀ r, s.link.response = some r →
      exec (.pendingResponseRead n) s = .next { s with
        link := { s.link with
          response := if r.length ≤ n then none else some r
          sent := r.take n ++ List.replicate (n - r.length) 0#8 } }) ∧
    (s.link.response = none → exec (.pendingResponseRead n) s = .next s) ∧
    (∀ c m r, encodeMessage c = some m → s.link.response = some r →
      exec c s = .next { s with
        link := { s.link with
          response := if r.length ≤ m.length then none else some r
          sent := r.take m.length ++ List.replicate (m.length - r.length) 0#8 } })) ∧
  (∀ (s : State) (rest : List HostEdge), s.pending = [] → ¬StartsAtOnce s →
    (s.link.edges = .select :: rest → s.link.select = false →
      step s = .next { s with link := { s.link with edges := rest, select := true, bits := [] } }) ∧
    (∀ b, s.link.edges = .clock b :: rest → s.link.select = true →
      step s = .next { s with link := { s.link with edges := rest, bits := s.link.bits ++ [b] } }) ∧
    (s.link.select = false → s.link.edges = .release :: rest ∨ (∃ b, s.link.edges = .clock b :: rest) →
      step s = .next { s with link := { s.link with edges := rest } }) ∧
    (∀ m part, s.link.edges = .release :: rest → s.link.select = true → s.link.bits = messageBits m ++ part →
      part.length < 8 → ∃ t, step s = .next t ∧
        t = { s with
          link := { s.link with edges := rest, select := false, bits := [], sent := t.link.sent }
          pending := t.pending } ∧
        (s.link.response = none → m = [] → t.pending = []) ∧
        (s.link.response = none → m ≠ [] → (∀ c, parseMessage m = .ok c → t.pending = [c]) ∧
          (∀ resp, parseMessage m = .error resp → t.pending = [.unknownCommand m])) ∧
        (s.link.response ≠ none → t.pending = [.pendingResponseRead m.length]))) ∧
  (∀ (l : Link) (k j : Nat), j < 8 → l.bits.length = 8 * k + j →
    (∀ r, l.response = some r → l.dataOut = (r.getD k 0#8).getMsbD j) ∧ (l.response = none → l.dataOut = false))

/-- R187: a true HOST_SILENT condition falls and is reported before the command acts (R194), and every command taken
leaves its response pending and restarts the host-silence timer. -/
def Obligations.EveryCommandTakenIsAnswered : Prop :=
  ∀ (c : Instr) (code : Byte) (s : State), commandCode c = some code → s.link.response = none →
    exec c s = exec c (report .hostSilent false s) ∧ ((report .hostSilent false s).entry .hostSilent).condition = false ∧
    ∃ t resp data, exec c s = .next t ∧ Answers code resp data t

/-- Every message of a host command is read back as that command (11.3, R186). -/
def Obligations.MessageRoundTrip : Prop :=
  ∀ (c : Instr) (m : List Byte), c.wellFormed = true → (∀ k fs b, c ≠ .append (.unknown k fs) b) →
    encodeMessage c = some m → parseMessage m = .ok c

/-- A message given by its bytes acts as the command it spells; one that fails a check is answered FORMAT or UNKNOWN and
has no other effect (R186). That an UNKNOWN_COMMAND with such bytes is carried out as the command it spells is the
model's choice (log 30), and that a message of fewer than 5 bytes is answered FORMAT is its reading (log 25). -/
def Obligations.MessageByItsBytesActsAsItsCommand : Prop :=
  (∀ (c : Instr) (m : List Byte) (s : State), c.wellFormed = true → encodeMessage c = some m → m.length < 65536 →
    exec (.unknownCommand m) s = exec c s) ∧
  (∀ (m : List Byte) (s : State), (Instr.unknownCommand m).wellFormed = true → Ready s →
    ∃ resp, parseMessage m = .error resp ∧ (resp = .format ∨ resp = .unknown) ∧
      AnswersOnly (.unknownCommand m) (m.getD 2 0#8) resp [] s)

/-- The frames of 11.2 are read back as they were sent, and are 19 or 10 bytes long (R72, R75, R199); the attempt's bit
times are the preamble at mark and then its characters' bits, and a character's ten bits are read back as its byte (R70,
R74). -/
def Obligations.FrameRoundTrip : Prop :=
  (∀ f : Frame, f.source ≠ 0#8 → judgeFrame (encodeFrame f) = .good f ∧
    frameLength (encodeFrame f) = some (encodeFrame f).length ∧
    (encodeFrame f).length = match f.body with
      | .report _ => 19
      | .holdNotice _ => 10
      | .unloadNotice _ => 10) ∧
  (∀ (bytes : List Byte) (k j : Nat) (c : Byte),
    (j < 10 → frameLevel bytes j = false) ∧
    (bytes[k]? = some c → j < 10 → frameLevel bytes (10 * (k + 1) + j) = characterLevel c j) ∧
    characterLevel c 0 = true ∧ characterLevel c 9 = false ∧
    takenByte ((List.range 10).map (characterLevel c)) = c)

/-! ## Settings -/

/-- A SET in IDLE: one outside the tests of R188 is answered RANGE and changes nothing, and an accepted one writes its
setting and no other, and answers the value. -/
def Obligations.SetWritesItsSettingAlone : Prop :=
  ∀ (n i : Byte) (v : BitVec 32) (s : State), Ready s → s.posture = .idle →
    (settingAllowed n.toNat i.toNat v.toInt s.settings = false → AnswersOnly (.set n i v) 0x01#8 .range [] s) ∧
    (settingAllowed n.toNat i.toNat v.toInt s.settings = true →
    ∃ t, exec (.set n i v) s = .next t ∧ readSetting n.toNat i.toNat t.settings = v.toInt ∧
      (∀ m j, settingExists m j = true → (m, j) ≠ (n.toNat, i.toNat) →
        readSetting m j t.settings = readSetting m j s.settings) ∧
      t.posture = .idle ∧ Answers 0x01#8 .ok (be 4 v.toInt) t ∧
      (n.toNat ∉ reevaluated ∨ readSetting n.toNat i.toNat s.settings = v.toInt →
        t = { s with settings := t.settings, link := exchanged s t } ∧ t.link.notices = s.link.notices))

/-- R189: GET answers in every posture and changes nothing, and after a refused SET the value is the one kept. -/
def Obligations.GetAnswersTheValueHeld : Prop :=
  ∀ (n i : Byte) (s : State), Ready s →
    (settingExists n.toNat i.toNat = true →
      AnswersOnly (.get n i) 0x02#8 .ok (be 4 (readSetting n.toNat i.toNat s.settings)) s) ∧
    (settingExists n.toNat i.toNat = false → AnswersOnly (.get n i) 0x02#8 .range [] s) ∧
    (∀ v, s.posture ≠ .idle ∨ settingAllowed n.toNat i.toNat (v : BitVec 32).toInt s.settings = false →
      ∃ t, exec (.set n i v) s = .next t ∧
        readSetting n.toNat i.toNat t.settings = readSetting n.toNat i.toNat s.settings)

/-- A SET that changes the station id reseeds the generator, removes the entry that holds the new id, and with id 0
empties the slots; one that changes the group removes every entry of another group, with a notice for each (R85, R87,
R107). In a state whose peer conditions and hold demand stand as R108 and R121 give them. -/
def Obligations.SetOfStationIdOrGroupActsAtOnce : Prop :=
  ∀ (v : BitVec 32) (s : State), Ready s → s.posture = .idle → peerConditionLaw s → demandLaw s → 0 ≤ v.toInt →
    v.toInt ≤ 255 →
    (v.toInt ≠ s.settings.stationId →
      ∃ t, exec (.set 1#8 0#8 v) s = .next t ∧ t.settings = { s.settings with stationId := v.toNat } ∧
        t.peers.entries = s.peers.entries.filter (fun e => e.id ≠ v.toNat) ∧
        (v.toNat ≠ 0 → t.line.generator = BitVec.ofNat 16 v.toNat) ∧
        (v.toNat = 0 → t.line = { s.line with
          generator := 0, unloadSlot := {}, holdSlot := {}, reportSlot := none, wait := 0, tx := t.line.tx } ∧
          (s.line.driving = false → t.line.tx = .quiet) ∧ (s.line.driving = true → t.line.tx = s.line.tx))) ∧
    (v.toInt ≠ s.settings.group →
      ∃ t gone, exec (.set 2#8 0#8 v) s = .next t ∧
        gone = s.peers.entries.filter (fun e => e.group ≠ v.toNat) ∧
        t = { s with
          settings := { s.settings with group := v.toNat }
          peers := { s.peers with entries := s.peers.entries.filter (fun e => e.group = v.toNat) }
          causes := t.causes, link := exchanged s t } ∧ peerConditionLaw t ∧
        (∀ d, d ≠ .peerHold → d ≠ .peerUnload → d ≠ .peerLost → t.entry d = s.entry d) ∧
        (s.link.notices.length + gone.length ≤ 31 →
          (s.link.notices ++ gone.map (fun e => (⟨s.time, .peerForgotten e.id .ownGroup⟩ : NoticeEntry))).isPrefixOf
            t.link.notices = true))

/-- The settings whose change does more than write, in IDLE: floor, ceiling and ramp step maximum clamp the queue
again (R32); an interlock's enable reports its line (R25); a strain channel's enable starts or ends the channel (R136,
R142, R143); drift-watch resets a record that it makes watched (R153, R160); a crack channel's enable moves its
detector (R166). The limits, actions, counts and masks that a condition or demand is computed from evaluate it again
(R50, R52, R142, R143, R160, R182), and a latch mode that becomes EDGE drops a pending ack (R4). -/
def Obligations.SetOfAnEvaluatedSettingActsAtOnce : Prop :=
  ∀ (n i : Byte) (v : BitVec 32) (s : State), Ready s → s.posture = .idle →
    settingAllowed n.toNat i.toNat v.toInt s.settings = true → readSetting n.toNat i.toNat s.settings ≠ v.toInt →
    ∃ t, exec (.set n i v) s = .next t ∧ t.posture = .idle ∧
      (n = 5#8 ∨ n = 6#8 ∨ n = 23#8 →
        t = { s with settings := t.settings, program := t.program, link := exchanged s t } ∧
        t.link.notices = s.link.notices ∧
        t.program = { s.program with queue := s.program.queue.map (fun g => { g with
          body := clampBody t.settings g.body
          clamped := g.clamped || decide (clampBody t.settings g.body ≠ g.body) }) }) ∧
      (∀ l : Fin 4, n = 26#8 → i.toNat = l.val →
        (t.entry (.interlock l)).condition = (decide (v.toInt = 1) && s.ports[l].debouncedOpen) ∧
        (∀ d, d ≠ .interlock l → t.entry d = s.entry d) ∧ t.ports = s.ports ∧ t.strain = s.strain ∧
        ((s.entry (.interlock l)).condition = false → (t.entry (.interlock l)).condition = true →
          (t.entry (.interlock l)).latched = true) ∧
        ((t.entry (.interlock l)).condition = (s.entry (.interlock l)).condition →
          t = { s with settings := t.settings, link := exchanged s t } ∧ t.link.notices = s.link.notices)) ∧
      (∀ ch : Fin 32, n = 39#8 → i.toNat = ch.val →
        t.strain.derateDemand = derateCondition t.settings t.strain ∧
        (t.entry .drift).condition = driftCondition t.settings t.strain ∧
        (t.entry (.strain ch)).condition = false ∧ t.crack = s.crack ∧ t.servo = s.servo ∧ t.program = s.program ∧
        (v.toInt = 1 →
          t.strain.channels = s.strain.channels.set ch { s.strain.channels[ch] with
            band := .within, aboveCount := 0, belowCount := 0, last := none, clampFlag := false, extremes := none } ∧
          t.strain.drift =
            (if s.settings.strain[ch].driftWatch then s.strain.drift.set ch {} else s.strain.drift)) ∧
        (v.toInt = 0 →
          t.strain.channels = s.strain.channels.set ch { s.strain.channels[ch] with
            band := .disabled, aboveCount := 0, belowCount := 0, zeroing := none } ∧
          t.strain.drift = s.strain.drift ∧
          (∀ z, s.strain.channels[ch].zeroing = some z → s.link.notices.length ≤ 30 →
            t.link.notices[s.link.notices.length]? = some ⟨s.time, .zeroAbandoned ch .disabled z.count⟩))) ∧
      (∀ ch : Fin 32, n = 50#8 → i.toNat = ch.val →
        (t.entry .drift).condition = driftCondition t.settings t.strain ∧
        (∀ d, d ≠ .drift → t.entry d = s.entry d) ∧ t.strain.channels = s.strain.channels ∧
        t.strain.drift = (if v.toInt = 1 ∧ s.settings.strain[ch].enable = true then s.strain.drift.set ch {}
          else s.strain.drift)) ∧
      (∀ ch : Fin 8, n = 55#8 → i.toNat = ch.val →
        t = { s with settings := t.settings, link := exchanged s t, crack := { s.crack with
          channels := s.crack.channels.set ch { s.crack.channels[ch] with
            detector := if v.toInt = 1 then .quiet else .disabled } } } ∧ t.link.notices = s.link.notices) ∧
      (n = 17#8 ∨ n = 18#8 →
        t = { s with settings := t.settings, causes := t.causes, link := exchanged s t } ∧
        (∀ x, s.servo.displacement = some x → (t.entry .stroke).condition =
          decide (x < t.settings.strokeMin ∨ t.settings.strokeMax < x)) ∧
        ((s.entry .stroke).condition = false → (t.entry .stroke).condition = true → (t.entry .stroke).latched = true) ∧
        (∀ d, d ≠ .stroke → t.entry d = s.entry d)) ∧
      (n = 19#8 →
        t = { s with settings := t.settings, causes := t.causes, link := exchanged s t } ∧
        ((t.entry .loadStale).condition = true ↔ s.servo.load = none ∨ t.settings.staleLimit ≤ s.servo.stale) ∧
        (∀ d, d ≠ .loadStale → t.entry d = s.entry d)) ∧
      (∀ l : Fin 4, n = 28#8 → i.toNat = l.val →
        t = { s with settings := t.settings, causes := t.causes, link := exchanged s t } ∧
        t.link.notices = s.link.notices ∧ (∀ d, d ≠ .interlock l → t.entry d = s.entry d) ∧
        t.entry (.interlock l) = (if t.settings.interlock[l].mode = .edge
          then { s.entry (.interlock l) with ackPending := false } else s.entry (.interlock l))) ∧
      (n = 48#8 →
        t = { s with settings := t.settings, link := exchanged s t, strain := { s.strain with
          derateDemand := derateCondition t.settings s.strain } } ∧ t.link.notices = s.link.notices) ∧
      (∀ ch : Fin 32, n = 49#8 → i.toNat = ch.val →
        (t.entry (.strain ch)).condition = strainCondition t.settings.strain[ch] s.strain.channels[ch] ∧
        (∀ d, d ≠ .strain ch → t.entry d = s.entry d) ∧ t.strain = s.strain ∧ t.servo = s.servo) ∧
      (n = 53#8 →
        t = { s with settings := t.settings, causes := t.causes, line := t.line, link := exchanged s t } ∧
        (demandLaw s → t.line = s.line) ∧
        (t.entry .drift).condition = driftCondition t.settings s.strain ∧ (∀ d, d ≠ .drift → t.entry d = s.entry d)) ∧
      (∀ ch : Fin 8, n = 63#8 → i.toNat = ch.val → s.settings.crack[ch].mode ≠ .follow →
        (t.entry (.crack ch)).condition = (s.crack.channels[ch].alarm.latched && decide (v.toInt = 0)) ∧
        (∀ d, d ≠ .crack ch → t.entry d = s.entry d) ∧ t.crack = s.crack ∧ t.servo = s.servo) ∧
      (∀ ch : Fin 8, n = 64#8 → i.toNat = ch.val →
        t = { s with settings := t.settings, causes := t.causes, crack := t.crack, link := exchanged s t } ∧
        t.link.notices = s.link.notices ∧ (∀ d, d ≠ .crack ch → t.entry d = s.entry d) ∧
        (t.settings.crack[ch].mode ≠ .edge → t.causes = s.causes ∧ t.crack = s.crack) ∧
        (t.settings.crack[ch].mode = .edge →
          t.entry (.crack ch) = { s.entry (.crack ch) with ackPending := false } ∧
          t.crack = { s.crack with channels := s.crack.channels.set ch { s.crack.channels[ch] with
            alarm := { s.crack.channels[ch].alarm with ackPending := false } } }))

/-! ## Posture commands -/

/-- The table of 10.2: where it says BUSY, the command is refused with BUSY and changes nothing. -/
def Obligations.BusyCommandsChangeNothing : Prop :=
  ∀ (c : Instr) (code : Byte) (s : State), Ready s → commandCode c = some code → busyIn s.posture c = true →
    AnswersOnly c code .busy [] s

/-- The first failing check of R20 gives a refused START's answer, and nothing changes. -/
def Obligations.StartIsRefusedByItsFirstFailingCheck : Prop :=
  ∀ s : State, Ready s → s.posture = .idle →
    (s.settings.stationId = 0 ∨ s.settings.group = 0 → AnswersOnly .start 0x10#8 .noId [] s) ∧
    (s.settings.stationId ≠ 0 → s.settings.group ≠ 0 →
      (¬limitsOrdered s → AnswersOnly .start 0x10#8 .range [] s) ∧
      (limitsOrdered s →
        ((s.entry .loadStale).condition = true → AnswersOnly .start 0x10#8 .stale [] s) ∧
        ((s.entry .loadStale).condition = false →
          ((s.entry .peerUnload).condition = true → AnswersOnly .start 0x10#8 .peerDown [] s) ∧
          ((s.entry .peerUnload).condition = false → ∀ c, c ≠ .peerHold → classOf s.settings c ≠ .report →
            (s.entry c).latched = true → AnswersOnly .start 0x10#8 .causes [] s))))

/-- An accepted START (R20, R46, R63): RUN with no peer holding, HOLD on PEER_HOLD otherwise. -/
def Obligations.StartRunsOrHolds : Prop :=
  ∀ (s : State) (load : Int), Ready s → s.posture = .idle → startable s →
    load = min (max s.loadNow s.settings.floor) s.settings.ceiling →
    ∃ t, exec .start s = .next t ∧ Answers 0x10#8 .ok [] t ∧
      t = { s with posture := t.posture, holdRecord := t.holdRecord, unloadRecord := none, program := t.program,
                   servo := t.servo, line := t.line, peers := { s.peers with trim := 0 }, link := exchanged s t } ∧
      t.servo = { s.servo with
        integrator := 0, valve := 0, settle := .notStarted, settleCount := 0, target := load } ∧
      t.program.setpoint = load * 256 ∧ t.program.queue = s.program.queue ∧
      (s.program.flight = none → t.program.flight = s.program.queue.head?.map (firstState (load * 256))) ∧
      ((s.entry .peerHold).condition = false → t.posture = .run ∧ t.holdRecord = none ∧
        (s.program.flight = none → s.program.queue = [] → t.program.starved = true)) ∧
      ((s.entry .peerHold).condition = true → t.posture = .hold ∧
        t.holdRecord = some ⟨.peerHold, s.time, t.program.counts, s.loadNow, false⟩ ∧
        t.program.starved = s.program.starved)

/-- The HOLD command in RUN and in HOLD, with the HOLD NOTICE of a demand that rises (R14, R21, R121, R122); the notice
of its fall is in `AckActsByTheLatchMode`. -/
def Obligations.HoldCommandHolds : Prop :=
  ∀ s : State, Ready s → (s.entry .holdCmd).condition = false →
    (s.posture = .run → (s.entry .holdCmd).latched = false →
      ∃ t, exec .hold s = .next t ∧ Answers 0x11#8 .ok [] t ∧ t.posture = .hold ∧
        (t.entry .holdCmd).latched = true ∧ (t.entry .holdCmd).condition = false ∧
        t.holdRecord = some ⟨.holdCmd, s.time, s.program.counts, s.loadNow, true⟩ ∧
        (s.line.holdTime = 0 → t.line.holdTime = s.settings.holdRenewTime ∧ t.line.demandCause = some .holdCmd ∧
          t.line.holdSlot = placedIn (s.line.inFlight .hold) ⟨s.settings.group, s.settings.holdRenewTime, .holdCmd⟩
            s.line.holdSlot) ∧
        (s.line.holdTime ≠ 0 → t.line.holdSlot = s.line.holdSlot) ∧
        t.program.setpoint = s.program.setpoint ∧ t.program.paced = false ∧ t.program.starved = false ∧
        t.servo = s.servo ∧ t.unloadRecord = s.unloadRecord ∧ ∀ d, d ≠ .holdCmd → t.entry d = s.entry d) ∧
    (s.posture = .hold → (s.entry .holdCmd).latched = false →
      ∃ t, exec .hold s = .next t ∧ Answers 0x11#8 .ok [] t ∧ t.posture = .hold ∧
        (t.entry .holdCmd).latched = true ∧
        t.holdRecord = s.holdRecord.map (fun r => { r with resumeRequired := true }) ∧ t.servo = s.servo ∧
        (s.line.holdTime = 0 → t.line.holdTime = s.settings.holdRenewTime ∧ t.line.demandCause = some .holdCmd ∧
          t.line.holdSlot = placedIn (s.line.inFlight .hold) ⟨s.settings.group, s.settings.holdRenewTime, .holdCmd⟩
            s.line.holdSlot) ∧
        (s.line.holdTime ≠ 0 → t.line.holdSlot = s.line.holdSlot) ∧
        ∀ d, d ≠ .holdCmd → t.entry d = s.entry d) ∧
    (s.posture = .run ∨ s.posture = .hold → (s.entry .holdCmd).latched = true →
      AnswersOnly .hold 0x11#8 .ok [] s)

/-- The UNLOAD command in RUN, HOLD and UNLOAD (R16, R17, R21, R60, R125). -/
def Obligations.UnloadCommandUnloads : Prop :=
  ∀ s : State, Ready s → (s.entry .unloadCmd).condition = false →
    (s.posture = .run ∨ s.posture = .hold → (s.entry .unloadCmd).latched = false →
      ∃ t, exec .unload s = .next t ∧ Answers 0x13#8 .ok [] t ∧ t.posture = .unload ∧
        (t.entry .unloadCmd).latched = true ∧
        t.unloadRecord = some ⟨.unloadCmd, s.posture, s.time, s.servo.target, s.loadNow, [], 0, .pending⟩ ∧
        t.holdRecord = s.holdRecord ∧
        t.servo = { s.servo with unloadSetpoint := s.servo.target, settle := .notStarted, settleCount := 0 } ∧
        t.program.setpoint = s.program.setpoint ∧ t.program.queue = s.program.queue ∧
        t.line.holdTime = 0 ∧ t.line.demandCause = none ∧ t.line.holdSlot.pending = none ∧
        (s.line.inFlight .unload = false → t.line.unloadSlot.pending = some (⟨s.settings.group, 0, .unloadCmd⟩, {})) ∧
        ∀ d, d ≠ .unloadCmd → t.entry d = s.entry d) ∧
    (s.posture = .unload → (s.entry .unloadCmd).latched = false →
      ∃ t, exec .unload s = .next t ∧ Answers 0x13#8 .ok [] t ∧ t.posture = .unload ∧
        (t.entry .unloadCmd).latched = true ∧ t.servo = s.servo ∧
        (∀ r, s.unloadRecord = some r → r.later.length < 8 →
          t.unloadRecord = some { r with later := r.later ++ [.unloadCmd] }) ∧
        (∀ r, s.unloadRecord = some r → 8 ≤ r.later.length →
          t.unloadRecord = some { r with overflow := min (r.overflow + 1) 255 }) ∧
        ∀ d, d ≠ .unloadCmd → t.entry d = s.entry d) ∧
    (s.posture = .run ∨ s.posture = .hold ∨ s.posture = .unload → (s.entry .unloadCmd).latched = true →
      AnswersOnly .unload 0x13#8 .ok [] s)

/-- RESUME in HOLD (R22): back to RUN with no HOLD-class entry latched, refused with CAUSES otherwise. -/
def Obligations.ResumeReturnsToRun : Prop :=
  ∀ s : State, Ready s → s.posture = .hold →
    ((∀ c ∈ Cause.all, classOf s.settings c = .hold → (s.entry c).latched = false) →
      ∃ t, exec .resume s = .next t ∧ Answers 0x12#8 .ok [] t ∧ t.posture = .run ∧ t.holdRecord = s.holdRecord ∧
        t.servo = s.servo ∧ t.peers = s.peers ∧ t.program.setpoint = s.program.setpoint ∧
        (s.program.flight.isSome = true → t.program.flight = s.program.flight) ∧ t.causes = s.causes) ∧
    (∀ c, classOf s.settings c = .hold → (s.entry c).latched = true → AnswersOnly .resume 0x12#8 .causes [] s)

/-- CLEAR in IDLE and in SAFE (R23, R46, R66). -/
def Obligations.ClearEmptiesTheProgram : Prop :=
  ∀ s : State, Ready s →
    (s.posture = .idle ∨ (s.posture = .safe ∧ ∀ c ∈ Cause.all, c ≠ .drift →
        classOf s.settings c = .unload ∨ classOf s.settings c = .safe → (s.entry c).latched = false) →
      ∃ t, exec .clear s = .next t ∧ Answers 0x14#8 .ok [] t ∧
        t = { s with posture := .idle, program := t.program, peers := { s.peers with trim := 0 }, line := t.line,
                     link := exchanged s t } ∧
        t.program.queue = [] ∧ t.program.flight = none ∧ t.program.lastCompleted = 0 ∧ t.program.nextToAssign = 1 ∧
        t.program.paced = false ∧ t.program.starved = false ∧ t.program.setpoint = s.program.setpoint ∧
        t.program.derated = s.program.derated ∧ t.program.progress = 65536#32 ∧ t.line.holdTime = 0) ∧
    (∀ c, s.posture = .safe → c ≠ .drift → classOf s.settings c = .unload ∨ classOf s.settings c = .safe →
      (s.entry c).latched = true → AnswersOnly .clear 0x14#8 .causes [] s)

/-! ## The load program -/

/-- APPEND (R30, R34): FORMAT for an unknown kind in every posture, FULL with 32 segments held, and otherwise the
clamped segment joins the tail. -/
def Obligations.AppendJoinsTheTail : Prop :=
  (∀ (seg : SegReq) (inspect : Bool) (s : State), Ready s →
    (requestBody seg = none → AnswersOnly (.append seg inspect) 0x20#8 .format [] s) ∧
    (requestBody seg ≠ none → s.posture ≠ .unload → s.posture ≠ .safe → 32 ≤ s.program.queue.length →
      AnswersOnly (.append seg inspect) 0x20#8 .full [] s)) ∧
  ∀ (seg : SegReq) (inspect : Bool) (body : SegBody) (s : State), Ready s → requestBody seg = some body →
    s.posture ≠ .unload → s.posture ≠ .safe → s.program.queue.length < 32 →
    ∃ t g, exec (.append seg inspect) s = .next t ∧
      g = { seq := s.program.nextToAssign, body := clampBody s.settings body, inspect := inspect,
            clamped := decide (clampBody s.settings body ≠ body) : Segment } ∧
      t = { s with program := t.program, link := exchanged s t } ∧ t.link.notices = s.link.notices ∧
      t.program.queue = s.program.queue ++ [g] ∧ t.program.nextToAssign = s.program.nextToAssign + 1 ∧
      t.program.starved = false ∧ t.program.lastCompleted = s.program.lastCompleted ∧
      t.program.setpoint = s.program.setpoint ∧ t.program.paced = s.program.paced ∧
      (s.posture = .idle ∨ s.program.flight.isSome = true → t.program.flight = s.program.flight) ∧
      (s.posture ≠ .idle → s.program.flight = none →
        t.program.flight = (s.program.queue ++ [g]).head?.map (firstState s.program.setpoint)) ∧
      Answers 0x20#8 .ok (be 2 s.program.nextToAssign.toNat ++ [if g.clamped then 1#8 else 0#8]) t

/-- R31: the kind is kept, and every field is kept inside its range and brought to the nearer bound outside it, with
floor and ceiling in either order; clamping again changes nothing (R32). -/
def Obligations.ClampedSegmentLiesInRange : Prop :=
  ∀ (st : Settings) (b : SegBody), 1 ≤ st.rampStepMax →
    (∀ target rate, b = .ramp target rate → ∃ target' rate', clampBody st b = .ramp target' rate' ∧
      BroughtInto st.floor st.ceiling target target' ∧ BroughtInto 1 st.rampStepMax rate rate') ∧
    (∀ duration, b = .dwell duration → ∃ duration', clampBody st b = .dwell duration' ∧
      BroughtInto 1 2147483647 duration duration') ∧
    (∀ mean amplitude quarter count watch, b = .cycle mean amplitude quarter count watch →
      ∃ mean' amplitude' quarter' count', clampBody st b = .cycle mean' amplitude' quarter' count' watch ∧
        BroughtInto st.floor st.ceiling mean mean' ∧ BroughtInto 1 16383 quarter quarter' ∧
        BroughtInto 1 16777215 count count' ∧ (st.ceiling < st.floor → amplitude' = 0) ∧
        (st.floor ≤ st.ceiling →
          BroughtInto 0 (min (mean' - st.floor) (st.ceiling - mean')) amplitude amplitude')) ∧
    clampBody st (clampBody st b) = clampBody st b

/-- R33: FLUSH in every posture keeps the segment in flight alone, and may starve the station (R43). That a FLUSH while
starved raises no second notice is the model's reading (log 19). -/
def Obligations.FlushKeepsTheSegmentInFlight : Prop :=
  ∀ s : State, Ready s →
    ∃ t, exec .flush s = .next t ∧ t = { s with program := t.program, link := exchanged s t } ∧
      t.program.queue = (if s.program.flight.isSome then s.program.queue.take 1 else []) ∧
      t.program.flight = s.program.flight ∧ t.program.setpoint = s.program.setpoint ∧
      t.program.lastCompleted = s.program.lastCompleted ∧
      (s.program.flight = none → t.program.nextToAssign = s.program.lastCompleted + 1) ∧
      (∀ g rest, s.program.flight.isSome = true → s.program.queue = g :: rest → t.program.nextToAssign = g.seq + 1) ∧
      (s.posture = .run → s.program.flight = none → t.program.starved = true) ∧
      (s.posture = .run ∧ s.program.flight = none ∧ s.program.starved = false ∨ t.link.notices = s.link.notices) ∧
      (s.posture = .run → s.program.flight = none → s.program.starved = false → s.link.notices.length ≤ 30 →
        t.link.notices = s.link.notices ++ [⟨s.time, .starved s.program.lastCompleted⟩]) ∧
      Answers 0x21#8 .ok (be 1 ((s.program.queue.length - t.program.queue.length : Nat) : Int)) t

/-! ## Acknowledgement, strain, peers and reads -/

/-- ACK of an entry that is no CRACK entry, in the manner of its latch mode (R6 to R9, R15), with the HOLD NOTICE of a
hold demand that falls (R122); RANGE for a pair that names no entry. -/
def Obligations.AckActsByTheLatchMode : Prop :=
  ∀ (kind index : Byte) (s : State), Ready s →
    ((∀ c : Cause, ¬(kind.toNat = c.kindCode ∧ index.toNat = c.index)) →
      AnswersOnly (.ack kind index) 0x30#8 .range [] s) ∧
    ∀ c : Cause, kind.toNat = c.kindCode → index.toNat = c.index → (∀ ch, c ≠ .crack ch) →
      ((s.entry c).latched = false ∨ modeOf s.settings c = .follow →
        AnswersOnly (.ack kind index) 0x30#8 .ok [] s) ∧
      ((s.entry c).latched = true → modeOf s.settings c = .level → (s.entry c).condition = true →
        ∃ t, exec (.ack kind index) s = .next t ∧ Answers 0x30#8 .ok [] t ∧
          t = { s with causes := t.causes, link := exchanged s t } ∧ t.link.notices = s.link.notices ∧
          t.entry c = { s.entry c with ackPending := true } ∧ ∀ d, d ≠ c → t.entry d = s.entry d) ∧
      ((s.entry c).latched = true →
        modeOf s.settings c = .edge ∨ (modeOf s.settings c = .level ∧ (s.entry c).condition = false) →
        ∃ t, exec (.ack kind index) s = .next t ∧ Answers 0x30#8 .ok [] t ∧
          t.entry c = { s.entry c with latched := false, ackPending := false } ∧
          (∀ d, d ≠ c → t.entry d = s.entry d) ∧
          t = { s with
            posture := t.posture, causes := t.causes, program := t.program, line := t.line, link := exchanged s t } ∧
          (classOf s.settings c ≠ .hold → t.posture = s.posture ∧ t.program = s.program ∧ t.line = s.line) ∧
          (s.posture ≠ .hold → t.posture = s.posture) ∧
          (s.posture = .hold → classOf s.settings c = .hold → s.line.holdTime ≠ 0 →
            (∀ d, d ≠ c → d ≠ .peerHold → classOf s.settings d = .hold → (s.entry d).latched = false) →
            t.line.holdTime = 0 ∧ t.line.demandCause = none ∧
            t.line.holdSlot = placedIn (s.line.inFlight .hold) ⟨s.settings.group, 0, c⟩ s.line.holdSlot) ∧
          (s.posture = .hold → classOf s.settings c = .hold → s.resumeRequired = false →
            (∀ d, d ≠ c → classOf s.settings d = .hold → (s.entry d).latched = false) →
            t.posture = .run ∧ t.line.holdTime = 0) ∧
          (s.posture = .hold →
            (s.resumeRequired = true ∨ ∃ d, d ≠ c ∧ classOf s.settings d = .hold ∧ (s.entry d).latched = true) →
            t.posture = .hold))

/-- ACK of a CRACK entry acknowledges the entry and reaches its channel's alarm latch, whose clearing lowers the CRACK
condition: the channel masked or not, the entry latched or clear, the latch set or clear (R9, R181, R182), with HOLD
exit where a HOLD-class entry clears (R15). The CRACK condition stands as R182 gives it (`crackLaw`). -/
def Obligations.AckOfCrackReachesTheAlarmLatch : Prop :=
  ∀ (ch : Fin 8) (s : State) (e : CauseEntry) (c : CrackChannel) (mask clears : Bool), Ready s →
    e = s.entry (.crack ch) → c = s.crack.channels[ch] → mask = s.settings.crack[ch].mask →
    s.settings.crack[ch].mode ≠ .follow → e.condition = (c.alarm.latched && !mask) →
    clears = (decide (s.settings.crack[ch].mode = .edge) || !c.alarm.condition) →
    ∃ t, exec (.ack 1#8 (BitVec.ofNat 8 ch.val)) s = .next t ∧ Answers 0x30#8 .ok [] t ∧
      t = { s with
        posture := t.posture, causes := t.causes, program := t.program, line := t.line, crack := t.crack
        link := exchanged s t } ∧
      (∀ d, d ≠ .crack ch → t.entry d = s.entry d) ∧
      t.crack = { s.crack with channels := s.crack.channels.set ch { c with
        alarm := if c.alarm.latched = false then c.alarm
          else if clears then { c.alarm with latched := false, ackPending := false }
          else { c.alarm with ackPending := true } } } ∧
      t.entry (.crack ch) =
        (if e.latched = false then { e with condition := e.condition && !clears }
        else if e.condition = true ∧ clears = false then { e with ackPending := true }
        else { e with condition := false, latched := false, ackPending := false }) ∧
      ((t.entry (.crack ch)).latched = e.latched ∨ s.settings.crack[ch].cls ≠ .hold →
        t = { s with causes := t.causes, crack := t.crack, link := exchanged s t }) ∧
      (s.posture ≠ .hold → t.posture = s.posture) ∧
      (s.posture = .hold → e.latched = true → (t.entry (.crack ch)).latched = false →
        s.settings.crack[ch].cls = .hold → t.posture =
          if s.resumeRequired = false ∧ ∀ d ∈ Cause.all, classOf s.settings d = .hold → (t.entry d).latched = false
          then .run
          else .hold)

/-- ACK ALL acknowledges every entry and every alarm latch, and leaves HOLD where no HOLD-class entry stays latched
and no resume is required (R9, R15, R181, R182). The CRACK conditions stand as R182 gives them (`crackLaw`). -/
def Obligations.AckAllAcknowledgesEveryEntry : Prop :=
  ∀ s : State, Ready s → crackLaw s →
    ∃ t, exec .ackAll s = .next t ∧ Answers 0x31#8 .ok [] t ∧
      (∀ c, (∀ ch, c ≠ .crack ch) →
        (t.entry c).condition = (s.entry c).condition ∧ (t.entry c).snapshot = (s.entry c).snapshot ∧
        (modeOf s.settings c = .edge → (t.entry c).latched = false) ∧
        (modeOf s.settings c = .level →
          (t.entry c).latched = ((s.entry c).latched && (s.entry c).condition) ∧
          ((t.entry c).latched = true → (t.entry c).ackPending = true)) ∧
        (modeOf s.settings c = .follow → t.entry c = s.entry c)) ∧
      (∀ ch : Fin 8, t.crack.channels[ch].alarm.latched =
        (s.crack.channels[ch].alarm.latched && decide (s.settings.crack[ch].mode = .level) &&
          s.crack.channels[ch].alarm.condition)) ∧
      (∀ ch : Fin 8, s.settings.crack[ch].mode ≠ .follow →
        (t.entry (.crack ch)).condition = (t.crack.channels[ch].alarm.latched && !s.settings.crack[ch].mask) ∧
        (t.entry (.crack ch)).latched = (t.entry (.crack ch)).condition) ∧
      (s.posture ≠ .hold → t.posture = s.posture) ∧
      (s.posture = .hold → t.posture =
        if s.resumeRequired = false ∧ ∀ c ∈ Cause.all, classOf s.settings c = .hold → (t.entry c).latched = false
        then .run else .hold) ∧
      t.settings = s.settings ∧ t.servo = s.servo ∧ t.strain = s.strain ∧ t.ports = s.ports ∧ t.peers = s.peers ∧
      t.holdRecord = s.holdRecord ∧ t.unloadRecord = s.unloadRecord

/-- ZERO in IDLE and HOLD starts a zeroing on each named channel that is enabled, and answers their mask (R146). -/
def Obligations.ZeroStartsTheNamedChannels : Prop :=
  ∀ (mask : BitVec 32) (s : State), Ready s → s.posture = .idle ∨ s.posture = .hold →
    ∃ t started, exec (.zero mask) s = .next t ∧
      (∀ i : Fin 32, (started : BitVec 32).getLsbD i = (mask.getLsbD i && s.settings.strain[i].enable)) ∧
      Answers 0x40#8 .ok (be 4 started.toNat) t ∧
      t = { s with strain := { s.strain with channels := t.strain.channels }, link := exchanged s t } ∧
      t.link.notices = s.link.notices ∧
      ∀ i : Fin 32, t.strain.channels[i] =
        if started.getLsbD i then { s.strain.channels[i] with zeroing := some ⟨0, 0⟩ } else s.strain.channels[i]

/-- R145: CLEAR EXTREMES empties the pairs of all 32 channels in every posture, and the next valid sample of an enabled
channel becomes both its maximum and its minimum. -/
def Obligations.ClearExtremesEmptiesEveryPair : Prop :=
  (∀ s : State, Ready s →
    ∃ t, exec .clearExtremes s = .next t ∧ Answers 0x41#8 .ok [] t ∧
      t = { s with strain := { s.strain with channels := t.strain.channels }, link := exchanged s t } ∧
      t.link.notices = s.link.notices ∧
      ∀ i : Fin 32, t.strain.channels[i] = { s.strain.channels[i] with extremes := none }) ∧
  (∀ (i : Fin 32) (v : BitVec 24) (s : State), s.settings.strain[i].enable = true →
    s.strain.channels[i].extremes = none → v.toInt ≠ -8388608 →
    ∃ t x, exec (.strainSample i v) s = .next t ∧ t.strain.channels[i].last = some x ∧
      t.strain.channels[i].extremes = some (x, x))

/-- R106: FORGET in every posture, on a table whose conditions stand as it gives them (`peerConditionLaw`). -/
def Obligations.ForgetRemovesTheNamedEntry : Prop :=
  ∀ (id : Byte) (s : State), Ready s → peerConditionLaw s →
    (id = 0#8 → AnswersOnly (.forget id) 0x50#8 .range [] s) ∧
    (id ≠ 0#8 → (∀ e ∈ s.peers.entries, e.id ≠ id.toNat) → AnswersOnly (.forget id) 0x50#8 .ok [0#8] s) ∧
    (id ≠ 0#8 → (∃ e ∈ s.peers.entries, e.id = id.toNat) →
      ∃ t, exec (.forget id) s = .next t ∧ Answers 0x50#8 .ok [1#8] t ∧
        t.peers = { s.peers with entries := s.peers.entries.filter (fun e => e.id ≠ id.toNat) } ∧
        peerConditionLaw t ∧ t.program.paced = s.program.paced ∧
        (s.link.notices.length ≤ 30 →
          t.link.notices[s.link.notices.length]? = some ⟨s.time, .peerForgotten id.toNat .forget⟩))

/-- R192, with what READ NOTICES removes (R191): the attention line is asserted exactly while the queue holds an entry;
a store into the empty queue asserts it, a store into another leaves it asserted, the READ NOTICES that empties the
queue releases it, and so do both resets. Every response carries the number held. -/
def Obligations.AttentionFollowsTheNoticeQueue : Prop :=
  (∀ s : State, s.link.attention = true ↔ 1 ≤ s.link.notices.length) ∧
  (∀ (n : Notice) (s : State), (pushNotice n s).link.attention = true) ∧
  (∀ s : State, Ready s →
    ∃ t, exec .readNotices s = .next t ∧ t = { s with link := exchanged s t } ∧
      t.link.notices = s.link.notices.drop 8 ∧ (t.link.attention = false ↔ s.link.notices.length ≤ 8)) ∧
  (∀ s : State, ∃ t, exec .powerOnReset s = .next t ∧ t.link.attention = false) ∧
  (∀ s : State, s.link.response = none → ∃ t, exec .reset s = .next t ∧ t.link.attention = false) ∧
  (∀ (c : Instr) (code : Byte) (s : State), commandCode c = some code → s.link.response = none →
    ∃ t resp data, exec c s = .next t ∧
      t.link.response = some (responseBytes code ⟨resp, data⟩ t.link.notices.length))

/-- The six reads that change nothing (R110, R150, R162, R195, R196), and the four commands that take away what is
theirs alone: READ LINE its seven flags (R92), READ HITS up to 8 records from the head of the hit FIFO (R176), READ
NOTICES up to 8 entries from the head of the notice queue (R191), and CLEAR PEAK in IDLE and HOLD the load peak (R51,
10.2). The data stand in the layouts that the model's readings and choices give them: truth values (log 12), a cause
pair none (log 13), absent records (log 14), READ LINE (log 15), hit durations (log 16), the timer in READ STATUS (log
27), and in READ PEERS the trim (log 36) and the same-group value (log 42). -/
def Obligations.ReadsTakeAwayTheirOwnAlone : Prop :=
  ∀ s : State, Ready s →
    AnswersOnly .readStatus 0x60#8 .ok (statusRecord s) s ∧ AnswersOnly .readCauses 0x61#8 .ok (causesData s) s ∧
    AnswersOnly .readRecords 0x62#8 .ok (recordsData s) s ∧ AnswersOnly .readPeers 0x63#8 .ok (peersData s) s ∧
    AnswersOnly .readStrain 0x64#8 .ok (strainData s) s ∧ AnswersOnly .readDrift 0x65#8 .ok (driftData s) s ∧
    (statusRecord s).length = 64 ∧
    (∃ t, exec .readLine s = .next t ∧ Answers 0x68#8 .ok (lineData s) t ∧ t.link.notices = s.link.notices ∧
      t = { s with link := exchanged s t, line := { s.line with
        noise := false, framing := false, crcError := false, formatError := false, lateCollision := false,
        dropped := false, breakHeard := false } }) ∧
    (∃ t, exec .readHits s = .next t ∧
      t = { s with crack := { s.crack with fifo := s.crack.fifo.drop 8 }, link := exchanged s t } ∧
      t.link.notices = s.link.notices ∧ Answers 0x66#8 .ok (hitsData (s.crack.fifo.take 8) t) t) ∧
    (∃ t, exec .readNotices s = .next t ∧ t = { s with link := exchanged s t } ∧
      t.link.notices = s.link.notices.drop 8 ∧ Answers 0x67#8 .ok (noticesData (s.link.notices.take 8) t) t) ∧
    (s.posture = .idle ∨ s.posture = .hold →
      ∃ t, exec .clearPeak s = .next t ∧ Answers 0x42#8 .ok [] t ∧ t.link.notices = s.link.notices ∧
        t = { s with servo := { s.servo with peak := -8388607 }, link := exchanged s t })

/-- Both resets leave every block in its state after reset; RESET leaves its OK pending besides (R197). The interlock
inputs, the other drivers of the line and the host's lines stand outside the station (logs 7 and 41). -/
def Obligations.ResetLeavesTheStateAfterReset : Prop :=
  ∀ s : State,
    ∃ t, exec .powerOnReset s = .next t ∧
      t = { State.reset with
        ports := t.ports, line := { State.reset.line with
          space := s.line.space, carrier := s.line.carrier, heard := s.line.heard, tapped := s.line.tapped },
        link := { State.reset.link with select := s.link.select, edges := s.link.edges },
        draws := s.draws, pending := s.pending } ∧
      (∀ i : Fin 4, t.ports[i] = ⟨s.ports[i].inputOpen, false, if s.ports[i].inputOpen then some 10000 else none⟩) ∧
      (s.link.response = none →
        ∃ u, exec .reset s = .next u ∧ u = { t with link := exchanged t u } ∧ u.link.notices = [] ∧ Answers 0x7F#8 .ok [] u)

/-! ## The control period -/

/-- The control period in IDLE and SAFE (R41, R50, R53, R65, R66): staleness, the derated flag and valve code 0. -/
def Obligations.RestingPeriodKeepsTheValveShut : Prop :=
  ∀ s : State, s.posture = .idle ∨ s.posture = .safe →
    ∃ t, exec .controlPeriodExpiry s = .next t ∧
      t.servo = { s.servo with
        stale := if s.servo.loadSeen then s.servo.stale else min (s.servo.stale + 1) 255
        loadSeen := false, valve := 0 } ∧
      t.program = { s.program with
        derated := s.strain.derateDemand, halfStep := s.program.halfStep && s.strain.derateDemand } ∧
      (t.entry .loadStale).condition = loadStaleCondition s.settings t.servo ∧
      (∀ d, d ≠ .loadStale → t.entry d = s.entry d) ∧
      t = { s with causes := t.causes, program := t.program, servo := t.servo,
                   timers := { s.timers with control := 1000 },
                   link := { s.link with notices := t.link.notices } }

/-- The control period while the program stands, in HOLD and in RUN while paced or starved: setpoint and generator stay,
the loop works stages 3 to 8, and FOLLOWING and VALVE_SAT rise and fall (R35, R53 to R59). VALVE_SAT's class is one of
its two values (R201), as `settingsLaw` keeps it. That no settle test follows at the expiry that brings UNLOAD is the
model's reading (log 26). -/
def Obligations.StandingPeriodComputesTheLoop : Prop :=
  ∀ (s : State) (T : Int) (loop : Servo) (unloading : Servo), ProgramStands s → loadFresh s →
    s.settings.valveSatClass = .hold ∨ s.settings.valveSatClass = .unload →
    T = targetAt s s.program.setpoint → loop = loopAfter s T →
    unloading = { loop with unloadSetpoint := T, settle := .notStarted, settleCount := 0 } →
    ((s.entry .following).condition = decide (s.settings.followingCount ≤ loop.followCount) →
      (s.entry .valveSat).condition = decide (s.settings.valveSatLimit ≤ loop.satCount) →
      ∃ t, exec .controlPeriodExpiry s = .next t ∧
        t = { s with servo := loop, timers := { s.timers with control := 1000 }, program := standing s }) ∧
    ((s.entry .following).condition = false → (s.entry .following).latched = false →
      s.settings.followingCount ≤ loop.followCount →
      ∃ t, exec .controlPeriodExpiry s = .next t ∧ t.posture = .unload ∧ (t.entry .following).condition = true ∧
        (t.entry .following).latched = true ∧ t.servo = unloading ∧ t.program = outOfRun s (standing s) ∧
        t.unloadRecord = some ⟨.following, s.posture, s.time, T, s.loadNow,
          if s.settings.valveSatLimit ≤ loop.satCount ∧ (s.entry .valveSat).condition = false ∧
            (s.entry .valveSat).latched = false ∧ s.settings.valveSatClass = .unload then [.valveSat] else [],
          0, .pending⟩) ∧
    ((s.entry .following).condition = true ∨ (s.entry .following).latched = true ∨
        loop.followCount < s.settings.followingCount →
      (s.entry .valveSat).condition = false → (s.entry .valveSat).latched = false →
      s.settings.valveSatLimit ≤ loop.satCount →
      ∃ t, exec .controlPeriodExpiry s = .next t ∧ (t.entry .valveSat).condition = true ∧
        (t.entry .valveSat).latched = true ∧ t.program = outOfRun s (standing s) ∧
        (s.settings.valveSatClass = .hold → t.posture = .hold ∧ t.servo = loop ∧
          (s.posture = .hold → t.holdRecord = s.holdRecord.map (fun r => { r with resumeRequired := true })) ∧
          (s.posture = .run →
            t.holdRecord = some ⟨.valveSat, s.time, s.program.setpoint.tdiv 256, s.loadNow, true⟩)) ∧
        (s.settings.valveSatClass = .unload → t.posture = .unload ∧ t.servo = unloading ∧
          t.unloadRecord = some ⟨.valveSat, s.posture, s.time, T, s.loadNow, [], 0, .pending⟩)) ∧
    ((s.entry .following).condition = true ∨ (s.entry .following).latched = true ∨
        loop.followCount < s.settings.followingCount →
      (s.entry .valveSat).condition = true ∨ (s.entry .valveSat).latched = true ∨
        loop.satCount < s.settings.valveSatLimit →
      ∃ t, exec .controlPeriodExpiry s = .next t ∧
        t = { s with
          servo := loop, timers := { s.timers with control := 1000 }, program := standing s, causes := t.causes } ∧
        t.entry .following =
          { s.entry .following with condition := decide (s.settings.followingCount ≤ loop.followCount) } ∧
        t.entry .valveSat =
          { s.entry .valveSat with condition := decide (s.settings.valveSatLimit ≤ loop.satCount) } ∧
        ∀ d, d ≠ .following → d ≠ .valveSat → t.entry d = s.entry d)

/-- The control period in UNLOAD: the unload setpoint nears the floor, the settle test starts where it reaches it, and
a load settled there, or at any later expiry of the test, ends the unload COMPLETE in SAFE (R18, R60, R61, R65); a fresh
rise of FOLLOWING, whether or not its entry was latched and whatever the settle state, ends it INCOMPLETE (R17, R59,
R62). -/
def Obligations.UnloadPeriodNearsTheUnloadFloor : Prop :=
  ∀ (s : State) (floor u next : Int) (loop : Servo), s.posture = .unload → loadFresh s →
    floor = s.settings.unloadFloor → u = s.servo.unloadSetpoint →
    next = (if (floor - u).natAbs ≤ s.settings.unloadStep then floor
      else if u < floor then u + s.settings.unloadStep else u - s.settings.unloadStep) →
    loop = { loopAfter s next with unloadSetpoint := next } →
    (loopQuiet s → s.servo.settle = .notStarted → s.settings.unloadStep < (floor - u).natAbs →
      ∃ t, exec .controlPeriodExpiry s = .next t ∧
        t = { s with servo := loop, program := standing s, timers := { s.timers with control := 1000 } }) ∧
    (loopQuiet s → s.servo.settle = .notStarted → (floor - u).natAbs ≤ s.settings.unloadStep →
      0 < s.settings.settleTime → s.settings.settleBand < (s.loadNow - floor).natAbs →
      ∃ t, exec .controlPeriodExpiry s = .next t ∧
        t = { s with
          servo := { loop with settle := .testing, settleCount := 0 }
          program := standing s, timers := { s.timers with control := 1000 } }) ∧
    (loopQuiet s →
      (s.servo.settle = .notStarted ∧ (floor - u).natAbs ≤ s.settings.unloadStep) ∨
        (s.servo.settle = .testing ∧ u = floor) →
      (s.loadNow - floor).natAbs ≤ s.settings.settleBand →
      ∃ t, exec .controlPeriodExpiry s = .next t ∧ t.posture = .safe ∧
        t.unloadRecord = s.unloadRecord.map (fun r => { r with outcome := .complete }) ∧
        t.servo = { atRest loop with
          settleCount := if s.servo.settle = .testing then min (s.servo.settleCount + 1) 65535 else 0 } ∧
        t.peers = { s.peers with trim := 0 } ∧ ∀ d, t.entry d = s.entry d) ∧
    ((s.entry .following).condition = false → s.settings.followingCount ≤ loop.followCount →
      1 ≤ s.settings.followingCount → 1 ≤ s.settings.valveSatLimit →
      ∃ t, exec .controlPeriodExpiry s = .next t ∧ t.posture = .safe ∧ (t.entry .following).latched = true ∧
        (t.entry .following).condition = false ∧
        t.unloadRecord = s.unloadRecord.map (fun r => { listed .following r with outcome := .incomplete }) ∧
        t.servo = atRest loop ∧ t.peers = { s.peers with trim := 0 })

/-- The program unit's step in RUN, with the loop's target following it (R35 to R42, R54): steps, completions with and
without inspect, and a CYCLE skipped for a jump. -/
def Obligations.RunPeriodStepsTheSegmentInFlight : Prop :=
  ∀ (s : State) (g : Segment) (rest : List Segment) (w : Generator) (half : Bool), s.posture = .run → loadFresh s →
    loopQuiet s → s.program.paced = false → s.program.starved = false → s.program.queue = g :: rest →
    s.program.flight = some w → half = (s.program.halfStep && s.strain.derateDemand) →
    (∀ target rate start step, g.body = .ramp target rate → w = .ramp start →
      step = (if s.strain.derateDemand then max (rate / 2) 1 else rate) →
      (step < (target * 256 - s.program.setpoint).natAbs →
        Steps s (if s.program.setpoint < target * 256 then s.program.setpoint + step else s.program.setpoint - step)
          w half s.strain) ∧
      ((target * 256 - s.program.setpoint).natAbs ≤ step → g.inspect = false → Completes s g rest (target * 256)) ∧
      ((target * 256 - s.program.setpoint).natAbs ≤ step → g.inspect = true → InspectReady s →
        CompletesHeld s g rest (target * 256))) ∧
    (∀ duration elapsed, g.body = .dwell duration → w = .dwell elapsed →
      (elapsed + 1 < duration → Steps s s.program.setpoint (.dwell (elapsed + 1)) half s.strain) ∧
      (duration ≤ elapsed + 1 → g.inspect = false → Completes s g rest s.program.setpoint) ∧
      (duration ≤ elapsed + 1 → g.inspect = true → InspectReady s → CompletesHeld s g rest s.program.setpoint)) ∧
    (∀ mean amplitude quarter count watch p n m, g.body = .cycle mean amplitude quarter count watch →
      (w = .cycle false p n m → (s.program.counts - mean).natAbs ≤ s.settings.jumpTolerance →
        (watch = false → Steps s (mean * 256) (.cycle true 0 0 false) half { s.strain with watched := none }) ∧
        (watch = true → (s.entry .drift).condition = false →
          Steps s (mean * 256) (.cycle true 0 0 false) half
            { s.strain with watched := some g.seq, drift := Vector.replicate 32 {}, lastClose := none })) ∧
      (w = .cycle false p n m → s.settings.jumpTolerance < (s.program.counts - mean).natAbs →
        (s.entry .program).condition = false → (s.entry .program).latched = false → Skips s g rest) ∧
      (w = .cycle true p n m →
        (s.strain.derateDemand = true → s.program.halfStep = false → Steps s s.program.setpoint w true s.strain) ∧
        (s.strain.derateDemand = false ∨ s.program.halfStep = true →
          (p + 1 < 4 * quarter →
            Steps s ((mean + triangle amplitude quarter (p + 1)) * 256) (.cycle true (p + 1) n m) false s.strain) ∧
          (4 * quarter ≤ p + 1 → watch = false →
            (n + 1 < count → Steps s (mean * 256) (.cycle true 0 (n + 1) false) false s.strain) ∧
            (count ≤ n + 1 → g.inspect = false → Completes s g rest (mean * 256)) ∧
            (count ≤ n + 1 → g.inspect = true → InspectReady s → CompletesHeld s g rest (mean * 256))))))

/-- A watched CYCLE closes a cycle: each watched channel's drift record by its state, the last close, and the DRIFT
condition (R156, R157, R158, R159, R160). That a drift truncated to 0 is no excess at a drift limit of 0 is the model's
reading of R159 (log 39). -/
def Obligations.CycleCloseWorksTheDriftRecords : Prop :=
  ∀ (s : State) (g : Segment) (rest : List Segment) (mean : Int) (a q c p n : Nat) (m : Bool), s.posture = .run →
    loadFresh s → s.program.paced = false → s.program.starved = false → s.strain.derateDemand = false →
    s.program.queue = g :: rest → g.body = .cycle mean a q c true → s.program.flight = some (.cycle true p n m) →
    4 * q ≤ p + 1 →
    ∃ t, exec .controlPeriodExpiry s = .next t ∧ t.strain.lastClose = some ⟨g.seq, n + 1, m⟩ ∧
      t.strain.channels = s.strain.channels ∧ t.strain.watched = s.strain.watched ∧ t.settings = s.settings ∧
      (t.entry .drift).condition = driftCondition t.settings t.strain ∧
      ∀ (i : Fin 32) (r w : DriftRecord), r = s.strain.drift[i] → w = t.strain.drift[i] →
        (watchedChannel s.settings.strain[i] = false → w = r) ∧
        (watchedChannel s.settings.strain[i] = true →
          (r.cycle = none → w = { r with lastRange := none, lastInterrupted := true }) ∧
          (∀ hi lo, r.cycle = some (hi, lo) → ∀ range, range = (hi - lo).toNat →
            (m = true → w = { r with cycle := none, lastRange := some range, lastInterrupted := true }) ∧
            (m = false → w.cycle = none ∧ w.lastRange = some range ∧ w.lastInterrupted = false) ∧
            (m = false → r.state = .gathering →
              w.sum = r.sum + range ∧ w.gathered = r.gathered + 1 ∧ w.lastDrift = r.lastDrift ∧
              (r.gathered + 1 < s.settings.referenceCycles → w.state = .gathering ∧ w.reference = r.reference) ∧
              (s.settings.referenceCycles ≤ r.gathered + 1 →
                w.reference = some ((r.sum + range) / (r.gathered + 1)) ∧
                w.state = if (r.sum + range) / (r.gathered + 1) = 0 then .noRef else .watching)) ∧
            (m = false → r.state = .watching → ∀ ref, r.reference = some ref → ∀ d,
              d = min (max ((((range : Int) - (ref : Nat)) * 1000).tdiv (ref : Nat)) (-9999)) 9999 →
              w.state = .watching ∧ w.reference = some ref ∧ w.lastDrift = some d ∧
              w.excess = if s.settings.driftLimit < d.natAbs then min (r.excess + 1) 255 else 0)))

/-- LOAD_STALE: the control period expiry at which the stale counter reaches the stale limit brings SAFE (R19, R50,
R65); with a load arriving in time the row has no effect (the model's choice, log 4). -/
def Obligations.LoadStaleEntersSafe : Prop :=
  ∀ s : State,
    (s.servo.load.isSome = true → (s.entry .loadStale).condition = false → (s.entry .loadStale).latched = false →
      s.servo.loadSeen = false → s.servo.stale < 255 → s.settings.staleLimit ≤ s.servo.stale + 1 →
      s.posture = .run ∨ s.posture = .hold ∨ s.posture = .unload →
      ∃ t, exec .loadStale s = .next t ∧ exec .controlPeriodExpiry s = .next t ∧ t.posture = .safe ∧
        (t.entry .loadStale).condition = true ∧ (t.entry .loadStale).latched = true ∧
        t.servo = { s.servo with
          stale := s.servo.stale + 1, valve := 0, integrator := 0, satDir := .zero, satCount := 0, followCount := 0
          settle := .ended } ∧
        t.peers = { s.peers with trim := 0 } ∧ t.line.holdTime = 0 ∧ t.line.holdSlot = {} ∧
        t.program.setpoint = s.program.setpoint ∧ t.program.queue = s.program.queue ∧ t.holdRecord = s.holdRecord ∧
        (s.posture = .run ∨ s.posture = .hold →
          t.unloadRecord =
            some ⟨.loadStale, s.posture, s.time, s.servo.target, s.loadNow, [], 0, .incomplete⟩) ∧
        (∀ r, s.posture = .unload → s.unloadRecord = some r → r.later.length < 8 →
          t.unloadRecord = some { r with later := r.later ++ [.loadStale], outcome := .incomplete })) ∧
    (loadFresh s → exec .loadStale s = .next s)

/-- SETTLE_TIME_EXCEEDED: a load that stays outside the settle band for the settle time ends the unload INCOMPLETE in
SAFE (R18, R61); before that the row has no effect (the model's choice, log 4) and the count goes on. -/
def Obligations.SettleTimeExceededEndsTheUnload : Prop :=
  ∀ (s : State) (n : Nat), s.posture = .unload → loadFresh s → loopQuiet s → s.servo.settle = .testing →
    s.servo.unloadSetpoint = s.settings.unloadFloor → n = min (s.servo.settleCount + 1) 65535 →
    s.settings.settleBand < (s.loadNow - s.settings.unloadFloor).natAbs →
    (s.settings.settleTime ≤ n →
      ∃ t, exec .settleTimeExceeded s = .next t ∧ exec .controlPeriodExpiry s = .next t ∧ t.posture = .safe ∧
        t.unloadRecord = s.unloadRecord.map (fun r => { r with outcome := .incomplete }) ∧ t.servo.valve = 0 ∧
        t.servo.integrator = 0 ∧ t.servo.settle = .ended ∧ t.servo.settleCount = n ∧
        t.peers = { s.peers with trim := 0 } ∧ ∀ d, t.entry d = s.entry d) ∧
    (n < s.settings.settleTime →
      exec .settleTimeExceeded s = .next s ∧
      ∃ t, exec .controlPeriodExpiry s = .next t ∧ t.posture = .unload ∧ t.servo.settle = .testing ∧
        t.servo.settleCount = n ∧ t.unloadRecord = s.unloadRecord)

/-! ## The other timers and the interlock inputs -/

/-- An own report period expiry: the report slot, a break still due, the aging of the peers, their conditions, and in
RUN the pacing (R78, R89, R104, R105, R108, R117, R118). That the report slot is filled after a break that abandons
the own REPORT is the model's reading (log 20). -/
def Obligations.ReportPeriodAgesThePeers : Prop :=
  ∀ s : State,
    ∃ t, exec .reportPeriodExpiry s = .next t ∧
      t.timers = { s.timers with report := s.settings.reportPeriod * 1000 } ∧
      (∀ e, e ∈ t.peers.entries ↔ ∃ b ∈ s.peers.entries,
        ¬(s.settings.forgetLimit ≠ 0 ∧ s.settings.forgetLimit ≤ min (b.age + 1) 65535) ∧
        e = { b with age := min (b.age + 1) 65535, holdCount := b.holdCount - 1
                     lost := b.lost || decide (s.settings.peerLostLimit ≤ min (b.age + 1) 65535) }) ∧
      peerConditionLaw t ∧ t.settings = s.settings ∧ t.strain = s.strain ∧ t.crack = s.crack ∧ t.ports = s.ports ∧
      (s.settings.stationId = 0 → t.line.reportSlot = s.line.reportSlot) ∧
      (s.settings.stationId ≠ 0 → t.line.reportSlot.isSome = true) ∧
      (s.settings.stationId ≠ 0 → s.breakDue = false → t.line.reportSlot = some (s.line.reportSlot.getD {})) ∧
      (s.settings.stationId ≠ 0 → s.breakDue = true → ∃ b, t.line.tx = .breaking b) ∧
      Paces s t

/-- R114 at an expiry that leaves the three peer conditions as they were, in RUN or HOLD. -/
def Obligations.ReportPeriodStepsTheTrim : Prop :=
  ∀ (s : State) (aged share : List Peer) (total weights d : Int),
    s.posture = .run ∨ s.posture = .hold → aged = agedEntries s.settings s.peers.entries →
    (s.entry .peerHold).condition = peerHoldCondition s.settings.group aged →
    (s.entry .peerUnload).condition = peerUnloadCondition s.settings.group aged →
    (s.entry .peerLost).condition = peerLostCondition s.settings.group aged →
    share = aged.filter (inShareSet s.settings.group) →
    total = s.loadNow + (share.map (fun e => e.load)).sum →
    weights = s.settings.weight + (share.map (fun e => (e.weight : Int))).sum →
    d = (total * s.settings.weight).tdiv weights - s.loadNow →
    ∃ t, exec .reportPeriodExpiry s = .next t ∧ t.posture = s.posture ∧ t.causes = s.causes ∧ t.servo = s.servo ∧
      (share = [] → t.peers.trim = s.peers.trim) ∧
      (share ≠ [] → t.peers.trim =
        min (max (s.peers.trim + (d * s.settings.shareGain).tdiv 256) (-s.settings.trimLimit)) s.settings.trimLimit)

/-- The chatter window (R103) and the rate window (R177, R180, R181). -/
def Obligations.WindowExpiriesCloseTheirCounts : Prop :=
  (∀ s : State, exec .chatterWindowExpiry s = .next { s with
    peers := { s.peers with entries := s.peers.entries.map (fun e => { e with chatterCount := 0, chattering := false }) }
    timers := { s.timers with chatter := 100000 } }) ∧
  (∀ s : State,
    ∃ t, exec .rateWindowExpiry s = .next t ∧
      t.timers = { s.timers with rateWindow := s.settings.rateWindow * 100000 } ∧
      t.settings = s.settings ∧ t.crack.fifo = s.crack.fifo ∧ t.crack.gap = s.crack.gap ∧ t.strain = s.strain ∧
      (∀ c, (∀ ch, c ≠ .crack ch) → (t.entry c).latched = (s.entry c).latched) ∧
      ∀ i : Fin 8,
        t.crack.channels[i] = { s.crack.channels[i] with
          windowHits := 0, windowFelicity := 0, closedHits := s.crack.channels[i].windowHits
          closedFelicity := s.crack.channels[i].windowFelicity, alarm := t.crack.channels[i].alarm } ∧
        (t.entry (.crack i)).condition = crackCondition s.settings.crack[i] t.crack.channels[i] ∧
        ((s.settings.crack[i].rateLimit ≠ 0 ∧ s.settings.crack[i].rateLimit ≤ s.crack.channels[i].windowHits) ∨
          (s.settings.crack[i].felicityLimit ≠ 0 ∧
            s.settings.crack[i].felicityLimit ≤ s.crack.channels[i].windowFelicity) ∨
          s.crack.channels[i].alarm.condition = false →
          t.crack.channels[i].alarm = s.crack.channels[i].alarm) ∧
        ((s.settings.crack[i].rateLimit = 0 ∨ s.crack.channels[i].windowHits < s.settings.crack[i].rateLimit) →
          (s.settings.crack[i].felicityLimit = 0 ∨
            s.crack.channels[i].windowFelicity < s.settings.crack[i].felicityLimit) →
          s.crack.channels[i].alarm.condition = true →
          t.crack.channels[i].alarm.condition = false ∧
          (t.crack.channels[i].alarm.latched = true ↔ s.crack.channels[i].alarm.latched = true ∧
            ¬(s.crack.channels[i].alarm.ackPending = true ∧ s.settings.crack[i].mode = .level))))

/-- The host-silence timer expires: HOST_SILENT rises, latches and acts by its class (R193, R194); the row has no effect
where the timer does not run (the model's choice, log 4). -/
def Obligations.HostSilenceRaisesItsCause : Prop :=
  ∀ s : State,
    (∀ left, s.link.silence = .running left → (s.entry .hostSilent).condition = false →
      (s.entry .hostSilent).latched = false →
      ∃ t, exec .hostSilenceExpiry s = .next t ∧ t.link.silence = .expired ∧ t.link.response = s.link.response ∧
        (t.entry .hostSilent).condition = true ∧ (t.entry .hostSilent).latched = true ∧
        (∀ d, d ≠ .hostSilent → (t.entry d).latched = (s.entry d).latched) ∧
        (s.settings.hostSilentClass = .hold → s.posture = .run → t.posture = .hold ∧
          t.holdRecord = some ⟨.hostSilent, s.time, s.program.counts, s.loadNow, true⟩) ∧
        (s.settings.hostSilentClass = .unload → s.posture = .run ∨ s.posture = .hold → t.posture = .unload ∧
          t.unloadRecord = some ⟨.hostSilent, s.posture, s.time, s.servo.target, s.loadNow, [], 0, .pending⟩) ∧
        (s.posture = .idle ∨ s.posture = .safe → t.posture = s.posture ∧ t.servo = s.servo)) ∧
    ((∀ left, s.link.silence ≠ .running left) → exec .hostSilenceExpiry s = .next s)

/-- The debounce of an interlock line, the report it makes, and what a latch of each class then does (R12, R13, R24,
R25). An expiry of a timer that does not run has no effect (the model's choice, log 4). -/
def Obligations.InterlockLinesAreDebounced : Prop :=
  ∀ (l : Fin 4) (isOpen : Bool) (s : State),
    (s.ports[l].inputOpen = isOpen → exec (.interlockInputChange l isOpen) s = .next s) ∧
    (s.ports[l].inputOpen ≠ isOpen →
      exec (.interlockInputChange l isOpen) s = .next { s with ports := s.ports.set l { s.ports[l] with
        inputOpen := isOpen
        timer := if isOpen = s.ports[l].debouncedOpen then none else some (s.settings.debounceTime * 1000) } }) ∧
    (s.ports[l].timer = none → exec (.debounceExpiry l) s = .next s) ∧
    (∀ left, s.ports[l].timer = some left →
      ∃ t, exec (.debounceExpiry l) s = .next t ∧
        t.ports = s.ports.set l { s.ports[l] with debouncedOpen := s.ports[l].inputOpen, timer := none } ∧
        (t.entry (.interlock l)).condition = (s.settings.interlock[l].enable && s.ports[l].inputOpen) ∧
        t.strain = s.strain ∧ t.crack = s.crack ∧ t.peers.entries = s.peers.entries ∧
        (∀ d, d ≠ .interlock l → (t.entry d).latched = (s.entry d).latched) ∧
        ((t.entry (.interlock l)).condition = (s.entry (.interlock l)).condition →
          t.causes = s.causes ∧ t.posture = s.posture) ∧
        (s.settings.interlock[l].enable = true → s.ports[l].inputOpen = true →
          (s.entry (.interlock l)).condition = false → (s.entry (.interlock l)).latched = false →
          (t.entry (.interlock l)).latched = true ∧
          (s.settings.interlock[l].hallStop = true → s.settings.stationId ≠ 0 → ∃ b, t.line.tx = .breaking b) ∧
          (s.settings.interlock[l].cls = .safe → s.posture = .run ∨ s.posture = .hold → t.posture = .safe) ∧
          (s.settings.interlock[l].cls = .unload → s.posture = .run ∨ s.posture = .hold → t.posture = .unload) ∧
          (s.settings.interlock[l].cls = .hold → s.posture = .run → t.posture = .hold) ∧
          (s.posture = .idle ∨ s.posture = .safe → t.posture = s.posture)))

/-! ## Samples -/

/-- A valid load sample is taken whole (R49, R50, R51), and a valid displacement sample with the STROKE condition it
gives (R52); one with the fault code changes nothing. -/
def Obligations.LoopSamplesAreTaken : Prop :=
  ∀ (v : BitVec 24) (s : State),
    (v.toInt = -8388608 → exec (.loadSample v) s = .next s ∧ exec (.displacementSample v) s = .next s) ∧
    (v.toInt ≠ -8388608 → 1 ≤ s.settings.staleLimit →
      ∃ t, exec (.loadSample v) s = .next t ∧
        t = { s with
          servo := { s.servo with
            load := some v.toInt, loadSeen := true, stale := 0, peak := max s.servo.peak v.toInt }
          causes := t.causes, link := { s.link with notices := t.link.notices } } ∧
        (t.entry .loadStale).condition = false ∧
        ((t.entry .loadStale).latched = true ↔ (s.entry .loadStale).latched = true ∧
          ¬((s.entry .loadStale).condition = true ∧ (s.entry .loadStale).ackPending = true)) ∧
        ∀ d, d ≠ .loadStale → t.entry d = s.entry d) ∧
    (v.toInt ≠ -8388608 →
      ∃ t, exec (.displacementSample v) s = .next t ∧ t.servo.displacement = some v.toInt ∧
        (t.entry .stroke).condition = decide (v.toInt < s.settings.strokeMin ∨ s.settings.strokeMax < v.toInt) ∧
        (∀ d, d ≠ .stroke → t.entry d = s.entry d) ∧ t.servo.load = s.servo.load ∧
        t.program.setpoint = s.program.setpoint ∧ t.strain = s.strain ∧ t.peers.entries = s.peers.entries ∧
        ((s.entry .stroke).condition = false → (t.entry .stroke).condition = true →
          (t.entry .stroke).latched = true ∧
          (s.posture = .run ∨ s.posture = .hold → (s.entry .stroke).latched = false → t.posture = .unload) ∧
          (s.posture = .idle ∨ s.posture = .safe → t.posture = s.posture)) ∧
        ((s.entry .stroke).condition = (t.entry .stroke).condition → t.posture = s.posture ∧ t.causes = s.causes))

/-- A valid sample of an enabled strain channel: conversion, band, extremes, cause, derate demand, zeroing and drift
record (R137, R138, R140, R141, R142, R143, R144, R147, R155); a fault-code sample (R139, R148), and a sample of a
disabled channel (R136). -/
def Obligations.StrainSampleIsWorked : Prop :=
  (∀ (i : Fin 32) (v : BitVec 24) (s : State) (cfg : StrainSettings) (c : StrainChannel) (q x : Int) (above below : Nat),
    cfg = s.settings.strain[i] → c = s.strain.channels[i] → cfg.enable = true → v.toInt ≠ -8388608 →
    q = roundDiv ((v.toInt - cfg.zeroOffset) * cfg.scale * (if cfg.negative then -1 else 1)) 65536 →
    x = min (max q (-32767)) 32767 → above = (if cfg.upperTrip < x then min (c.aboveCount + 1) 15 else 0) →
    below = (if x < cfg.lowerTrip then min (c.belowCount + 1) 15 else 0) →
    ∃ t n, exec (.strainSample i v) s = .next t ∧ n = t.strain.channels[i] ∧
      t.strain.channels = s.strain.channels.set i n ∧ n.last = some x ∧ (n.clampFlag = true ↔ x ≠ q) ∧
      n.extremes = some (match c.extremes with
        | some p => (max p.1 x, min p.2 x)
        | none => (x, x)) ∧
      (c.band = .within ∨ c.band = .fault →
        (cfg.tripCount ≤ above → n.band = .above) ∧
        (above < cfg.tripCount → cfg.tripCount ≤ below → n.band = .below) ∧
        (above < cfg.tripCount → below < cfg.tripCount →
          n.band = .within ∧ (c.zeroing = none → n.aboveCount = above ∧ n.belowCount = below))) ∧
      (c.band = .above → cfg.upperRelease < x → n.band = .above) ∧
      (c.band = .above → x ≤ cfg.upperRelease → cfg.lowerTrip ≤ x → 1 ≤ cfg.tripCount → n.band = .within) ∧
      (c.band = .below → x < cfg.lowerRelease → n.band = .below) ∧
      (c.band = .below → cfg.lowerRelease ≤ x → x ≤ cfg.upperTrip → 1 ≤ cfg.tripCount → n.band = .within) ∧
      (t.entry (.strain i)).condition = strainCondition cfg n ∧
      t.strain.derateDemand = derateCondition t.settings t.strain ∧
      (c.zeroing = none → n.zeroing = none ∧ t.settings = s.settings) ∧
      (∀ z, c.zeroing = some z → z.count + 1 < 64 →
        n.zeroing = some ⟨z.count + 1, z.sum + v.toInt⟩ ∧ t.settings = s.settings) ∧
      (∀ z, c.zeroing = some z → 64 ≤ z.count + 1 →
        n.zeroing = none ∧ t.settings = { s.settings with
          strain := s.settings.strain.set i { cfg with zeroOffset := roundDiv (z.sum + v.toInt) 64 } }) ∧
      (s.strain.watched.isSome = true → cfg.driftWatch = true →
        t.strain.drift = s.strain.drift.set i { s.strain.drift[i] with
          cycle := some (match s.strain.drift[i].cycle with
            | some p => (max p.1 x, min p.2 x)
            | none => (x, x)) }) ∧
      (s.strain.watched = none ∨ cfg.driftWatch = false → t.strain.drift = s.strain.drift)) ∧
  (∀ (i : Fin 32) (v : BitVec 24) (s : State),
    (s.settings.strain[i].enable = false → exec (.strainSample i v) s = .next s) ∧
    (s.settings.strain[i].enable = true → v.toInt = -8388608 →
      ∃ t, exec (.strainSample i v) s = .next t ∧ t.settings = s.settings ∧
        t.strain.channels = s.strain.channels.set i { s.strain.channels[i] with
          band := .fault, aboveCount := 0, belowCount := 0, zeroing := none } ∧
        (t.entry (.strain i)).condition = s.settings.strain[i].faultStops ∧
        t.strain.derateDemand = derateCondition s.settings t.strain ∧ t.strain.drift = s.strain.drift))

/-- An envelope sample by the channel's detector, where no hit ends; LOCKOUT_END is the sample that ends a lockout
(R167, R168, R169, R170, R171). HIT_END at a sample that ends no hit, and LOCKOUT_END at one that ends no lockout,
whatever the detector's state, have no effect (the model's choice, log 4). -/
def Obligations.EnvelopeSampleMovesTheDetector : Prop :=
  ∀ (i : Fin 8) (v : Byte) (s : State) (amp : Nat) (cfg : CrackSettings) (detector : Detector → State),
    cfg = s.settings.crack[i] → amp = min v.toNat 100 →
    (∀ d, detector d = { s with crack := { s.crack with
      channels := s.crack.channels.set i { s.crack.channels[i] with detector := d } } }) →
    (cfg.enable = false → exec (.envelopeSample i v) s = .next s) ∧
    (cfg.enable = true →
      (v = 255#8 → s.crack.channels[i].detector ≠ .disabled → s.crack.channels[i].detector ≠ .faulted →
        ∃ t, exec (.envelopeSample i v) s = .next t ∧
          t = { detector .faulted with link := { s.link with notices := t.link.notices } }) ∧
      (v ≠ 255#8 →
        (s.crack.channels[i].detector = .quiet → amp < cfg.threshold →
          exec (.envelopeSample i v) s = .next s) ∧
        (s.crack.channels[i].detector = .quiet → cfg.threshold ≤ amp →
          exec (.envelopeSample i v) s = .next (detector (.inHit
            ⟨s.time, s.servo.load.getD (-8388608), s.servo.peak, amp, 0, 1, 1, 0, false⟩))) ∧
        (∀ left, s.crack.channels[i].detector = .lockout left →
          (1 < left → exec (.envelopeSample i v) s = .next (detector (.lockout (left - 1)))) ∧
          (left ≤ 1 → exec (.envelopeSample i v) s = .next (detector .quiet) ∧
            exec (.lockoutEnd i v) s = .next (detector .quiet))) ∧
        (∀ h, s.crack.channels[i].detector = .inHit h → h.duration + 1 < 65535 →
          (cfg.threshold ≤ amp →
            exec (.envelopeSample i v) s = .next (detector (.inHit { h with
              duration := h.duration + 1, sinceCrossing := 0, below := false
              count := if h.below then min (h.count + 1) 65535 else h.count
              peak := max h.peak amp, rise := if h.peak < amp then h.duration else h.rise }))) ∧
          (amp < cfg.threshold → h.sinceCrossing + 1 < cfg.hdt →
            exec (.envelopeSample i v) s = .next (detector (.inHit { h with
              duration := h.duration + 1, sinceCrossing := h.sinceCrossing + 1, below := true }))))) ∧
      (s.crack.channels[i].detector = .faulted → exec (.envelopeSample i v) s = .next s)) ∧
    ((cfg.enable = true → v ≠ 255#8 → ∀ left, s.crack.channels[i].detector = .lockout left → 1 < left) →
      exec (.lockoutEnd i v) s = .next s) ∧
    ((cfg.enable = true → v ≠ 255#8 → ∀ h, s.crack.channels[i].detector = .inHit h → h.duration + 1 < 65535 ∧
        (amp < cfg.threshold → h.sinceCrossing + 1 < cfg.hdt)) →
      exec (.hitEnd i v) s = .next s)

/-- HIT_END: the sample at which the hit definition time runs out stores the hit, counts it, starts the lockout and
tests the three trips; a hit that reaches 65,535 samples ends truncated (R169, R170, R172, R173, R174, R175, R178,
R179, R180, R182). -/
def Obligations.HitEndStoresTheHit : Prop :=
  (∀ (i : Fin 8) (v : Byte) (s : State) (h : Hit) (cfg : CrackSettings) (c : CrackChannel) (felicity : Bool),
    cfg = s.settings.crack[i] → c = s.crack.channels[i] → cfg.enable = true → v ≠ 255#8 → c.detector = .inHit h →
    min v.toNat 100 < cfg.threshold → cfg.hdt ≤ h.sinceCrossing + 1 →
    (felicity = true ↔ h.load ≠ -8388608 ∧ (s.settings.felicityMinPeak : Int) ≤ h.peakLoad ∧
      h.load * 256 < s.settings.felicityRatio * h.peakLoad) →
    ∃ t n, exec (.hitEnd i v) s = .next t ∧ exec (.envelopeSample i v) s = .next t ∧ n = t.crack.channels[i] ∧
      t.crack.channels = s.crack.channels.set i n ∧ t.settings = s.settings ∧ t.strain = s.strain ∧
      n.detector = (if cfg.hlt = 0 then .quiet else .lockout cfg.hlt) ∧
      n.windowHits = min (c.windowHits + 1) 65535 ∧
      n.windowFelicity = (if felicity then min (c.windowFelicity + 1) 65535 else c.windowFelicity) ∧
      n.closedHits = c.closedHits ∧ n.closedFelicity = c.closedFelicity ∧
      (s.crack.fifo.length < 64 → t.crack.gap = 0 ∧ t.crack.fifo = s.crack.fifo ++
        [⟨i, h.startTime, h.duration + 1, h.peak, h.rise, h.count, h.load, felicity, false, s.crack.gap⟩]) ∧
      (64 ≤ s.crack.fifo.length → t.crack.fifo = s.crack.fifo ∧ t.crack.gap = min (s.crack.gap + 1) 255) ∧
      (∀ level, cfg.burst = some level → level ≤ h.peak →
        n.alarm.latched = true ∧ n.alarm.burst = true ∧
        (c.alarm.latched = false → n.alarm.firstKind = some .burst ∧ n.alarm.firstTime = some s.time)) ∧
      (cfg.rateLimit ≠ 0 → c.windowHits + 1 = cfg.rateLimit → c.windowHits < 65535 →
        n.alarm.latched = true ∧ n.alarm.rate = true ∧ n.alarm.condition = true) ∧
      (cfg.felicityLimit ≠ 0 → felicity = true → c.windowFelicity + 1 = cfg.felicityLimit → c.windowFelicity < 65535 →
        n.alarm.latched = true ∧ n.alarm.felicity = true ∧ n.alarm.condition = true) ∧
      (c.windowHits ≤ 65535 → c.windowFelicity ≤ 65535 → cfg.burst = none → cfg.rateLimit ≠ c.windowHits + 1 →
        cfg.felicityLimit ≠ c.windowFelicity + 1 → n.alarm = c.alarm) ∧
      (t.entry (.crack i)).condition = crackCondition cfg n) ∧
  (∀ (i : Fin 8) (v : Byte) (s : State) (h : Hit) (cfg : CrackSettings) (amp : Nat) (felicity : Bool),
    cfg = s.settings.crack[i] → amp = min v.toNat 100 → cfg.enable = true → v ≠ 255#8 →
    s.crack.channels[i].detector = .inHit h → 65535 ≤ h.duration + 1 → cfg.threshold ≤ amp ∨ h.sinceCrossing + 1 < cfg.hdt →
    (felicity = true ↔ h.load ≠ -8388608 ∧ (s.settings.felicityMinPeak : Int) ≤ h.peakLoad ∧
      h.load * 256 < s.settings.felicityRatio * h.peakLoad) →
    ∃ t, exec (.hitEnd i v) s = .next t ∧ exec (.envelopeSample i v) s = .next t ∧
      t.crack.channels[i].detector = (if cfg.hlt = 0 then .quiet else .lockout cfg.hlt) ∧
      t.crack.channels[i].windowHits = min (s.crack.channels[i].windowHits + 1) 65535 ∧
      (64 ≤ s.crack.fifo.length → t.crack.fifo = s.crack.fifo ∧ t.crack.gap = min (s.crack.gap + 1) 255) ∧
      (s.crack.fifo.length < 64 → t.crack.gap = 0 ∧ t.crack.fifo = s.crack.fifo ++
        [⟨i, h.startTime, h.duration + 1, if cfg.threshold ≤ amp then max h.peak amp else h.peak,
          if cfg.threshold ≤ amp ∧ h.peak < amp then h.duration else h.rise,
          if cfg.threshold ≤ amp ∧ h.below = true then min (h.count + 1) 65535 else h.count, h.load, felicity, true,
          s.crack.gap⟩]))

/-! ## The hall line -/

/-- An attempt start from DEFER: the order of the slots, the attempt counted, and the frame it drives (R73, R79, R80,
R81). Out of DEFER the row has no effect (the model's choice, log 4). -/
def Obligations.AttemptStartDrivesTheFirstPendingSlot : Prop :=
  ∀ s : State,
    (s.line.tx ≠ .defer → exec .attemptStart s = .next s) ∧
    (s.line.tx = .defer →
      (∀ c k, s.line.unloadSlot.pending = some (c, k) →
        ∃ t, exec .attemptStart s = .next t ∧ t = { s with line := t.line } ∧
          t.line.unloadSlot = { s.line.unloadSlot with pending := some (c, { k with attempts := k.attempts + 1 }) } ∧
          t.line.holdSlot = s.line.holdSlot ∧ t.line.reportSlot = s.line.reportSlot ∧ t.line.rx = .waiting ∧
          t.line.tx = .sending ⟨.unload, { k with attempts := k.attempts + 1 },
            encodeFrame ⟨BitVec.ofNat 8 s.settings.stationId, .unloadNotice (noticeOf c)⟩, 0⟩) ∧
      (∀ c k, s.line.unloadSlot.pending = none → s.line.holdSlot.pending = some (c, k) →
        ∃ t, exec .attemptStart s = .next t ∧ t = { s with line := t.line } ∧
          t.line.holdSlot = { s.line.holdSlot with pending := some (c, { k with attempts := k.attempts + 1 }) } ∧
          t.line.unloadSlot = s.line.unloadSlot ∧ t.line.reportSlot = s.line.reportSlot ∧ t.line.rx = .waiting ∧
          t.line.tx = .sending ⟨.hold, { k with attempts := k.attempts + 1 },
            encodeFrame ⟨BitVec.ofNat 8 s.settings.stationId, .holdNotice (noticeOf c)⟩, 0⟩) ∧
      (∀ k, s.line.unloadSlot.pending = none → s.line.holdSlot.pending = none → s.line.reportSlot = some k →
        ∃ t r, exec .attemptStart s = .next t ∧ t = { s with line := t.line } ∧
          t.line.reportSlot = some { k with attempts := k.attempts + 1 } ∧
          t.line.unloadSlot = s.line.unloadSlot ∧ t.line.holdSlot = s.line.holdSlot ∧ t.line.rx = .waiting ∧
          t.line.tx = .sending ⟨.report, { k with attempts := k.attempts + 1 },
            encodeFrame ⟨BitVec.ofNat 8 s.settings.stationId, .report r⟩, 0⟩ ∧
          r.group = BitVec.ofNat 8 s.settings.group ∧ r.weight = BitVec.ofNat 8 s.settings.weight ∧
          r.posture = BitVec.ofNat 8 s.posture.code ∧ r.hold = BitVec.ofNat 8 s.line.holdTime ∧
          r.progress = s.program.progress ∧ r.load = BitVec.ofInt 24 s.loadNow ∧
          r.flags = (if s.program.paced then 1#8 else 0#8) ||| (if s.program.starved then 2#8 else 0#8) |||
            (if s.program.derated then 4#8 else 0#8) ∧
          (s.posture = .run ∨ s.posture = .hold ∨ s.posture = .idle → r.cause = 0#8) ∧
          (∀ u, s.posture = .unload ∨ s.posture = .safe → s.unloadRecord = some u →
            r.cause = BitVec.ofNat 8 u.cause.kindCode)))

/-- Contention during an attempt (R69, R83, R84, R85, R86): a late collision past the header, a drop at the 16th
attempt, and otherwise a back-off drawn from the generator's next value. `SlotsAfter` keeps the model's choice of log
18, and `Released` the idle count of 0 at the release, its choice of log 34. -/
def Obligations.ContentionEndsTheAttempt : Prop :=
  ∀ (bit : Nat) (s : State) (f : Flight) (g : BitVec 16) (wait : Nat), s.line.tx = .sending f →
    g = BitVec.ofNat 16 ((s.line.generator.toNat * 25173 + 13849) % 65536) →
    wait = g.toNat % 2 ^ (min (f.counts.collisions + 1) 8) * 256 →
    (50 ≤ bit →
      ∃ t, exec (.contention bit) s = .next t ∧ t = { s with line := t.line } ∧ Released s t ∧
        SlotsAfter f.slot none s.line t.line ∧ t.line.lateCollision = true ∧ t.line.generator = s.line.generator) ∧
    (bit < 50 → 16 ≤ f.counts.attempts →
      ∃ t, exec (.contention bit) s = .next t ∧ t = { s with line := t.line } ∧ Released s t ∧
        SlotsAfter f.slot none s.line t.line ∧ t.line.dropped = true ∧ t.line.generator = s.line.generator) ∧
    (bit < 50 → f.counts.attempts < 16 → s.settings.stationId ≠ 0 →
      ∃ t, exec (.contention bit) s = .next t ∧ t = { s with line := t.line } ∧ t.line.generator = g ∧
        SlotsAfter f.slot (some { f.counts with collisions := f.counts.collisions + 1 }) s.line t.line ∧
        t.line.rx = .waiting ∧ t.line.idleCount = 0 ∧ t.line.dropped = s.line.dropped ∧
        (wait = 0 → Released s t) ∧ (wait ≠ 0 → t.line.tx = .backoff ∧ t.line.wait = wait))

/-- An attempt sent: the frame leaves its slot, which becomes empty or takes its successor, and the driver is released
(R69, R79, R82). The ends of a back-off wait and of the own break (R84, R88), in which contention is ignored.
`SlotsAfter` keeps the model's choice of log 18, and the idle count of 0 at the release is its choice of log 34. -/
def Obligations.AttemptsWaitsAndBreaksEnd : Prop :=
  ∀ (bit : Nat) (s : State),
    (∀ f, s.line.tx = .sending f →
      ∃ t, exec .frameSent s = .next t ∧ t = { s with line := t.line } ∧ Released s t ∧
        SlotsAfter f.slot none s.line t.line ∧ t.line.generator = s.line.generator ∧
        t.line.dropped = s.line.dropped ∧ t.line.lateCollision = s.line.lateCollision) ∧
    (s.line.tx = .backoff →
      ∃ t, exec .backoffEnd s = .next t ∧ t = { s with line := { s.line with wait := 0, tx := t.line.tx } } ∧
        (t.line.tx = .defer ∨ t.line.tx = .quiet) ∧
        (t.line.tx = .defer ↔ s.settings.stationId ≠ 0 ∧ s.line.anyPending = true)) ∧
    (∀ b, s.line.tx = .breaking b →
      exec .backoffEnd s = .next { s with line := { s.line with wait := 0 } } ∧
      exec (.contention bit) s = .next s ∧
      (s.line.wait = 0 → ∃ t, exec .breakEnd s = .next t ∧ t = { s with line := t.line } ∧ Released s t ∧
        t.line.unloadSlot = s.line.unloadSlot ∧ t.line.holdSlot = s.line.holdSlot ∧
        t.line.reportSlot = s.line.reportSlot) ∧
      (s.line.wait ≠ 0 → exec .breakEnd s = .next { s with line := { s.line with
        tx := .backoff, rx := .waiting, taking := none, idleCount := 0, spaceCount := 0 } }))

/-- A good REPORT (R77, R95 to R100, R108): of the own group and from an id not held, a new entry, or a refusal by a
full table; of another group and from an id not held, nothing; from an id held, an update with its notices, its group
changed or not, or nothing but the chattering flag. One accepted from an entry of the own group then brings the pacing
evaluation in RUN, and one of another group none (R109, R117, R118). That a weight byte 0 is compared as the 1 it is
written as is the model's reading (log 37). -/
def Obligations.ReportUpdatesThePeerTable : Prop :=
  ∀ (f : Frame) (r : ReportFields) (s : State), Listens s → f.body = .report r → f.source ≠ 0#8 →
    f.source.toNat ≠ s.settings.stationId →
    (r.group.toNat = s.settings.group → (∀ e ∈ s.peers.entries, e.id ≠ f.source.toNat) →
      s.peers.entries.length < 24 →
      ∃ t, exec (.frameReceived (encodeFrame f) .mark false) s = .next t ∧
        (∀ e, e ∈ t.peers.entries ↔ e ∈ s.peers.entries ∨
          e = reported r ⟨f.source.toNat, 0, 0, .idle, false, false, false, 0, r.hold.toNat, 0, 0, 0, false, 1, false⟩) ∧
        peerConditionLaw t ∧ t.peers.refusals = s.peers.refusals ∧ Paces s t) ∧
    (r.group.toNat = s.settings.group → (∀ e ∈ s.peers.entries, e.id ≠ f.source.toNat) →
      24 ≤ s.peers.entries.length →
      ∃ t, exec (.frameReceived (encodeFrame f) .mark false) s = .next t ∧
        t = { s with line := t.line, peers := t.peers, link := { s.link with notices := t.link.notices } } ∧
        t.peers = { s.peers with
          refusals := min (s.peers.refusals + 1) 65535, refusedId := some f.source.toNat } ∧
        (s.peers.refusedId = some f.source.toNat → t.link.notices = s.link.notices) ∧
        (s.peers.refusedId ≠ some f.source.toNat → s.link.notices.length ≤ 30 →
          t.link.notices = s.link.notices ++ [⟨s.time, .peerRefused f.source.toNat t.peers.refusals⟩])) ∧
    (r.group.toNat ≠ s.settings.group → (∀ e ∈ s.peers.entries, e.id ≠ f.source.toNat) →
      ∃ t, exec (.frameReceived (encodeFrame f) .mark false) s = .next t ∧ t = { s with line := t.line }) ∧
    (∀ e, s.peers.entries.find? (fun x => x.id = f.source.toNat) = some e →
      s.settings.chatterLimit = 0 ∨ e.chatterCount < s.settings.chatterLimit →
      ∃ t, exec (.frameReceived (encodeFrame f) .mark false) s = .next t ∧
        t.peers.entries = s.peers.entries.map (fun x => if x.id = f.source.toNat then reported r { e with
          holdCount := if e.group = r.group.toNat then r.hold.toNat else 0, age := 0, lost := false
          chatterCount := min (e.chatterCount + 1) 255 } else x) ∧ peerConditionLaw t ∧
        (r.group.toNat = s.settings.group → Paces s t) ∧
        (r.group.toNat ≠ s.settings.group → s.posture = .run → t.posture = .run → t.program = s.program) ∧
        (s.link.notices.length ≤ 29 →
          (s.link.notices ++ updateNotes s.time e (reported r e)).isPrefixOf t.link.notices = true)) ∧
    (∀ e, s.peers.entries.find? (fun x => x.id = f.source.toNat) = some e → s.settings.chatterLimit ≠ 0 →
      s.settings.chatterLimit ≤ e.chatterCount →
      ∃ t, exec (.frameReceived (encodeFrame f) .mark false) s = .next t ∧
        t.peers.entries = s.peers.entries.map
          (fun x => if x.id = f.source.toNat then { e with chattering := true } else x) ∧
        t = { s with peers := t.peers, line := t.line })

/-- HOLD NOTICE and UNLOAD NOTICE to their entry, one ignored for its source or its group, a frame with the own id, and
characters that a receiver waiting for idle bit times does not take (R74, R76, R77, R96, R101, R102). What the line then
shows of the other drivers is the model's choice (log 6). -/
def Obligations.NoticeFramesReachTheirEntry : Prop :=
  (∀ (f : Frame) (n : NoticeFields) (s : State), Listens s → f.source ≠ 0#8 →
    (∀ e, f.body = .holdNotice n → f.source.toNat ≠ s.settings.stationId →
      s.peers.entries.find? (fun x => x.id = f.source.toNat) = some e → n.group.toNat = e.group →
      ∃ t, exec (.frameReceived (encodeFrame f) .mark false) s = .next t ∧ peerConditionLaw t ∧
        t.peers.entries = s.peers.entries.map (fun x => if x.id = e.id then
          { e with holdCount := n.hold.toNat, age := 0, lost := false } else x)) ∧
    (∀ e, f.body = .unloadNotice n → f.source.toNat ≠ s.settings.stationId →
      s.peers.entries.find? (fun x => x.id = f.source.toNat) = some e → n.group.toNat = e.group →
      ∃ t, exec (.frameReceived (encodeFrame f) .mark false) s = .next t ∧ peerConditionLaw t ∧
        t.peers.entries = s.peers.entries.map (fun x => if x.id = e.id then
          { e with posture := .unload, age := 0, lost := false } else x)) ∧
    (f.body = .holdNotice n ∨ f.body = .unloadNotice n → f.source.toNat ≠ s.settings.stationId →
      (∀ e, s.peers.entries.find? (fun x => x.id = f.source.toNat) = some e → n.group.toNat ≠ e.group) →
      ∃ t, exec (.frameReceived (encodeFrame f) .mark false) s = .next t ∧ t = { s with line := t.line }) ∧
    (f.source.toNat = s.settings.stationId → (s.entry .idClash).condition = false →
      ∃ t, exec (.frameReceived (encodeFrame f) .mark false) s = .next t ∧ t.peers.entries = s.peers.entries ∧
        (t.entry .idClash).latched = true ∧ (t.entry .idClash).condition = false ∧
        ((s.entry .idClash).latched = false → s.posture = .run ∨ s.posture = .hold → t.posture = .unload))) ∧
  (∀ (chars : List Byte) (stop : StopBit) (noisy : Bool) (s : State), s.line.driving = false → s.line.rx = .waiting →
    chars ≠ [] →
    ∃ t, exec (.frameReceived chars stop noisy) s = .next t ∧
      t = { s with line := { s.line with
        noise := s.line.noise || noisy, taking := none, space := t.line.space, carrier := t.line.carrier
        idleCount := t.line.idleCount, spaceCount := t.line.spaceCount } })

/-- A broken frame sets its flag and reaches nothing else; characters while the own driver is active are not taken
(R74, R75, R76, R90). -/
def Obligations.BrokenFramesSetTheirFlag : Prop :=
  ∀ (chars : List Byte) (stop : StopBit) (noisy : Bool) (s : State),
    (s.line.driving = true → exec (.frameReceived chars stop noisy) s = .next s) ∧
    (Listens s → chars.head? = some 0x6C#8 →
      (stop = .mark → frameLength chars = some chars.length → judgeFrame chars = .badCrc →
        ∃ t, exec (.frameReceived chars stop noisy) s = .next t ∧ t = { s with line := t.line } ∧
          t.line.crcError = true ∧ t.line.formatError = s.line.formatError ∧ t.line.framing = s.line.framing ∧
          t.line.rx = .hunting ∧ t.line.noise = (s.line.noise || noisy)) ∧
      (stop = .mark → frameLength chars = some chars.length → judgeFrame chars = .badFormat →
        ∃ t, exec (.frameReceived chars stop noisy) s = .next t ∧ t = { s with line := t.line } ∧
          t.line.formatError = true ∧ t.line.crcError = s.line.crcError ∧ t.line.framing = s.line.framing ∧
          t.line.rx = .hunting ∧ t.line.noise = (s.line.noise || noisy)) ∧
      (stop = .mark → (∀ n, frameLength chars = some n → chars.length < n) →
        ∃ t, exec (.frameReceived chars stop noisy) s = .next t ∧ t = { s with line := t.line } ∧
          t.line.framing = true ∧ t.line.rx = .waiting) ∧
      (stop = .space →
        ∃ t u, exec (.frameReceived chars stop noisy) s = .next t ∧ t = { s with line := t.line } ∧
          t.line.framing = s.line.framing ∧ t.line.rx = .waiting ∧ exec .lineReturnsToMark t = .next u ∧
          u = { t with line := u.line } ∧ u.line.framing = true))

/-- The receiver's own events while the own driver is not active (R71, R74, R76, R90). RECEIVER_HUNT_RESUME has no
effect on a hunting receiver (the model's choice, log 4), and what these events tell of the idle count, the level and
the carrier where no bit time was read is the model's choice (log 6). -/
def Obligations.ReceiverEventsActOnTheLine : Prop :=
  ∀ (noisy : Bool) (s : State), s.line.driving = false →
    (s.line.rx = .waiting →
      ∃ t, exec .receiverHuntResume s = .next t ∧ t = { s with line := t.line } ∧ t.line.rx = .hunting ∧
        10 ≤ t.line.idleCount) ∧
    (s.line.rx = .hunting →
      exec .receiverHuntResume s = .next s ∧
      exec (.falseStart noisy) s = .next { s with line := { s.line with noise := s.line.noise || noisy } }) ∧
    (exec .lineReturnsToMark s = .next { s with line := { s.line with
      space := s.line.tapped && s.line.space, carrier := s.line.tapped && s.line.carrier
      spaceCount := if s.line.tapped then s.line.spaceCount else 0
      framing := s.line.framing || s.line.framingPending, framingPending := false } }) ∧
    ((s.entry .hallBreak).condition = false → (s.entry .hallBreak).latched = false →
      ∃ t, exec .breakRecognised s = .next t ∧ t.line.breakHeard = true ∧ t.line.rx = .waiting ∧
        t.line.framing = s.line.framing ∧ (t.entry .hallBreak).latched = true ∧
        (t.entry .hallBreak).condition = false ∧ (∀ d, d ≠ .hallBreak → t.entry d = s.entry d) ∧
        t.peers.entries = s.peers.entries ∧ t.program.setpoint = s.program.setpoint ∧
        (s.posture = .run ∨ s.posture = .hold → t.posture = .unload ∧
          t.unloadRecord = some ⟨.hallBreak, s.posture, s.time, s.servo.target, s.loadNow, [], 0, .pending⟩) ∧
        (s.posture = .idle ∨ s.posture = .unload ∨ s.posture = .safe → t.posture = s.posture))

/-! ## What every step keeps -/

/-- The law of the cause table and of HOLD (R8, R13, R15) is kept by every step. -/
def Obligations.EveryStepKeepsTheCauseLaw : Prop :=
  ∀ s t : State, causeLaw s → holdLaw s → step s = .next t → causeLaw t ∧ holdLaw t

/-- The records and the station's hold demand (R14, R16, R17, R121), and the servo loop's values and the share trim
inside their limits, at rest in IDLE and SAFE (R47, R58, R65, R113). -/
def Obligations.EveryStepKeepsRecordsLoopAndTrim : Prop :=
  (∀ s t : State, recordLaw s → step s = .next t → recordLaw t) ∧
  (∀ s t : State, demandLaw s → step s = .next t → demandLaw t) ∧
  (∀ s t : State, loopLaw s → step s = .next t → loopLaw t) ∧
  (∀ s t : State, trimLaw s → step s = .next t → trimLaw t)

/-- The segment queue's law (R29, R34, R43, R44), the bounds of the notice queue and of the hit FIFO (R175, R190), and
the law of the hall line, by which no frame is attempted more than 16 times (R78, R86). -/
def Obligations.EveryStepKeepsTheQueues : Prop :=
  (∀ s t : State, programLaw s → step s = .next t → programLaw t) ∧
  (∀ s t : State, noticeLaw s → step s = .next t → noticeLaw t) ∧
  (∀ s t : State, hitLaw s → step s = .next t → hitLaw t) ∧
  (∀ s t : State, lineLaw s → step s = .next t → lineLaw t)

/-- The peer table and its three conditions (R94, R107, R108). -/
def Obligations.EveryStepKeepsThePeerTable : Prop :=
  (∀ s t : State, tableLaw s → step s = .next t → tableLaw t) ∧
  (∀ s t : State, peerConditionLaw s → step s = .next t → peerConditionLaw t)

/-- Every setting lies in its range (R147, R188, R201); the STRAIN and CRACK causes are those of their channels and
latched while true, and the derate demand is that of the DERATE channels (R142, R143, R182). -/
def Obligations.EveryStepKeepsSettingsAndMeasuringCauses : Prop :=
  (∀ s t : State, settingsLaw s → step s = .next t → settingsLaw t) ∧
  (∀ s t : State, strainLaw s → step s = .next t → strainLaw t) ∧
  (∀ s t : State, crackLaw s → step s = .next t → crackLaw t) ∧
  (∀ s t : State, derateLaw s → step s = .next t → derateLaw t)

/-- The state after reset meets every law. -/
def Obligations.ResetMeetsEveryLaw : Prop :=
  causeLaw State.reset ∧ holdLaw State.reset ∧ recordLaw State.reset ∧ demandLaw State.reset ∧ loopLaw State.reset ∧
  trimLaw State.reset ∧ programLaw State.reset ∧ noticeLaw State.reset ∧ hitLaw State.reset ∧ tableLaw State.reset ∧
  peerConditionLaw State.reset ∧ lineLaw State.reset ∧ strainLaw State.reset ∧ crackLaw State.reset ∧
  derateLaw State.reset ∧ settingsLaw State.reset
end

