-- ==== Sys2Proof/Laws/State.lean ====
section
/-! SUPPORT. One lemma per field per update of the state, true by rfl, so that no later proof unfolds a record update; and
the reading of a cause entry after each update. -/

namespace Sys2Proof.Laws

open Sys2Proof Sys2Proof.Machine

/-! ## pushNotice (R190) -/

@[simp] theorem pushNotice_time (n : Notice) (s : State) : (pushNotice n s).time = s.time := rfl
@[simp] theorem pushNotice_settings (n : Notice) (s : State) : (pushNotice n s).settings = s.settings := rfl
@[simp] theorem pushNotice_posture (n : Notice) (s : State) : (pushNotice n s).posture = s.posture := rfl
@[simp] theorem pushNotice_causes (n : Notice) (s : State) : (pushNotice n s).causes = s.causes := rfl
@[simp] theorem pushNotice_holdRecord (n : Notice) (s : State) : (pushNotice n s).holdRecord = s.holdRecord := rfl
@[simp] theorem pushNotice_unloadRecord (n : Notice) (s : State) : (pushNotice n s).unloadRecord = s.unloadRecord := rfl
@[simp] theorem pushNotice_program (n : Notice) (s : State) : (pushNotice n s).program = s.program := rfl
@[simp] theorem pushNotice_servo (n : Notice) (s : State) : (pushNotice n s).servo = s.servo := rfl
@[simp] theorem pushNotice_line (n : Notice) (s : State) : (pushNotice n s).line = s.line := rfl
@[simp] theorem pushNotice_peers (n : Notice) (s : State) : (pushNotice n s).peers = s.peers := rfl
@[simp] theorem pushNotice_strain (n : Notice) (s : State) : (pushNotice n s).strain = s.strain := rfl
@[simp] theorem pushNotice_crack (n : Notice) (s : State) : (pushNotice n s).crack = s.crack := rfl
@[simp] theorem pushNotice_ports (n : Notice) (s : State) : (pushNotice n s).ports = s.ports := rfl
@[simp] theorem pushNotice_timers (n : Notice) (s : State) : (pushNotice n s).timers = s.timers := rfl
@[simp] theorem pushNotice_draws (n : Notice) (s : State) : (pushNotice n s).draws = s.draws := rfl
@[simp] theorem pushNotice_pending (n : Notice) (s : State) : (pushNotice n s).pending = s.pending := rfl
@[simp] theorem pushNotice_entry (n : Notice) (s : State) (d : Cause) : (pushNotice n s).entry d = s.entry d := rfl

/-! ## setEntry (R3) -/

@[simp] theorem setEntry_time (c : Cause) (e : CauseEntry) (s : State) : (setEntry c e s).time = s.time := rfl
@[simp] theorem setEntry_settings (c : Cause) (e : CauseEntry) (s : State) : (setEntry c e s).settings = s.settings := rfl
@[simp] theorem setEntry_posture (c : Cause) (e : CauseEntry) (s : State) : (setEntry c e s).posture = s.posture := rfl
@[simp] theorem setEntry_holdRecord (c : Cause) (e : CauseEntry) (s : State) : (setEntry c e s).holdRecord = s.holdRecord := rfl
@[simp] theorem setEntry_unloadRecord (c : Cause) (e : CauseEntry) (s : State) : (setEntry c e s).unloadRecord = s.unloadRecord := rfl
@[simp] theorem setEntry_program (c : Cause) (e : CauseEntry) (s : State) : (setEntry c e s).program = s.program := rfl
@[simp] theorem setEntry_servo (c : Cause) (e : CauseEntry) (s : State) : (setEntry c e s).servo = s.servo := rfl
@[simp] theorem setEntry_line (c : Cause) (e : CauseEntry) (s : State) : (setEntry c e s).line = s.line := rfl
@[simp] theorem setEntry_peers (c : Cause) (e : CauseEntry) (s : State) : (setEntry c e s).peers = s.peers := rfl
@[simp] theorem setEntry_strain (c : Cause) (e : CauseEntry) (s : State) : (setEntry c e s).strain = s.strain := rfl
@[simp] theorem setEntry_crack (c : Cause) (e : CauseEntry) (s : State) : (setEntry c e s).crack = s.crack := rfl
@[simp] theorem setEntry_ports (c : Cause) (e : CauseEntry) (s : State) : (setEntry c e s).ports = s.ports := rfl
@[simp] theorem setEntry_link (c : Cause) (e : CauseEntry) (s : State) : (setEntry c e s).link = s.link := rfl
@[simp] theorem setEntry_timers (c : Cause) (e : CauseEntry) (s : State) : (setEntry c e s).timers = s.timers := rfl
@[simp] theorem setEntry_draws (c : Cause) (e : CauseEntry) (s : State) : (setEntry c e s).draws = s.draws := rfl
@[simp] theorem setEntry_pending (c : Cause) (e : CauseEntry) (s : State) : (setEntry c e s).pending = s.pending := rfl

/-! ## dropAck (R4) -/

@[simp] theorem dropAck_time (c : Cause) (s : State) : (dropAck c s).time = s.time := rfl
@[simp] theorem dropAck_settings (c : Cause) (s : State) : (dropAck c s).settings = s.settings := rfl
@[simp] theorem dropAck_posture (c : Cause) (s : State) : (dropAck c s).posture = s.posture := rfl
@[simp] theorem dropAck_holdRecord (c : Cause) (s : State) : (dropAck c s).holdRecord = s.holdRecord := rfl
@[simp] theorem dropAck_unloadRecord (c : Cause) (s : State) : (dropAck c s).unloadRecord = s.unloadRecord := rfl
@[simp] theorem dropAck_program (c : Cause) (s : State) : (dropAck c s).program = s.program := rfl
@[simp] theorem dropAck_servo (c : Cause) (s : State) : (dropAck c s).servo = s.servo := rfl
@[simp] theorem dropAck_line (c : Cause) (s : State) : (dropAck c s).line = s.line := rfl
@[simp] theorem dropAck_peers (c : Cause) (s : State) : (dropAck c s).peers = s.peers := rfl
@[simp] theorem dropAck_strain (c : Cause) (s : State) : (dropAck c s).strain = s.strain := rfl
@[simp] theorem dropAck_crack (c : Cause) (s : State) : (dropAck c s).crack = s.crack := rfl
@[simp] theorem dropAck_ports (c : Cause) (s : State) : (dropAck c s).ports = s.ports := rfl
@[simp] theorem dropAck_link (c : Cause) (s : State) : (dropAck c s).link = s.link := rfl
@[simp] theorem dropAck_timers (c : Cause) (s : State) : (dropAck c s).timers = s.timers := rfl
@[simp] theorem dropAck_draws (c : Cause) (s : State) : (dropAck c s).draws = s.draws := rfl
@[simp] theorem dropAck_pending (c : Cause) (s : State) : (dropAck c s).pending = s.pending := rfl

/-! ## setLine (R78) -/

@[simp] theorem setLine_time (l : Line) (s : State) : (setLine l s).time = s.time := rfl
@[simp] theorem setLine_settings (l : Line) (s : State) : (setLine l s).settings = s.settings := rfl
@[simp] theorem setLine_posture (l : Line) (s : State) : (setLine l s).posture = s.posture := rfl
@[simp] theorem setLine_causes (l : Line) (s : State) : (setLine l s).causes = s.causes := rfl
@[simp] theorem setLine_holdRecord (l : Line) (s : State) : (setLine l s).holdRecord = s.holdRecord := rfl
@[simp] theorem setLine_unloadRecord (l : Line) (s : State) : (setLine l s).unloadRecord = s.unloadRecord := rfl
@[simp] theorem setLine_program (l : Line) (s : State) : (setLine l s).program = s.program := rfl
@[simp] theorem setLine_servo (l : Line) (s : State) : (setLine l s).servo = s.servo := rfl
@[simp] theorem setLine_peers (l : Line) (s : State) : (setLine l s).peers = s.peers := rfl
@[simp] theorem setLine_strain (l : Line) (s : State) : (setLine l s).strain = s.strain := rfl
@[simp] theorem setLine_crack (l : Line) (s : State) : (setLine l s).crack = s.crack := rfl
@[simp] theorem setLine_ports (l : Line) (s : State) : (setLine l s).ports = s.ports := rfl
@[simp] theorem setLine_link (l : Line) (s : State) : (setLine l s).link = s.link := rfl
@[simp] theorem setLine_timers (l : Line) (s : State) : (setLine l s).timers = s.timers := rfl
@[simp] theorem setLine_draws (l : Line) (s : State) : (setLine l s).draws = s.draws := rfl
@[simp] theorem setLine_pending (l : Line) (s : State) : (setLine l s).pending = s.pending := rfl
@[simp] theorem setLine_entry (l : Line) (s : State) (d : Cause) : (setLine l s).entry d = s.entry d := rfl

/-! ## setPeers (R94) -/

@[simp] theorem setPeers_time (es : List Peer) (s : State) : (setPeers es s).time = s.time := rfl
@[simp] theorem setPeers_settings (es : List Peer) (s : State) : (setPeers es s).settings = s.settings := rfl
@[simp] theorem setPeers_posture (es : List Peer) (s : State) : (setPeers es s).posture = s.posture := rfl
@[simp] theorem setPeers_causes (es : List Peer) (s : State) : (setPeers es s).causes = s.causes := rfl
@[simp] theorem setPeers_holdRecord (es : List Peer) (s : State) : (setPeers es s).holdRecord = s.holdRecord := rfl
@[simp] theorem setPeers_unloadRecord (es : List Peer) (s : State) : (setPeers es s).unloadRecord = s.unloadRecord := rfl
@[simp] theorem setPeers_program (es : List Peer) (s : State) : (setPeers es s).program = s.program := rfl
@[simp] theorem setPeers_servo (es : List Peer) (s : State) : (setPeers es s).servo = s.servo := rfl
@[simp] theorem setPeers_line (es : List Peer) (s : State) : (setPeers es s).line = s.line := rfl
@[simp] theorem setPeers_strain (es : List Peer) (s : State) : (setPeers es s).strain = s.strain := rfl
@[simp] theorem setPeers_crack (es : List Peer) (s : State) : (setPeers es s).crack = s.crack := rfl
@[simp] theorem setPeers_ports (es : List Peer) (s : State) : (setPeers es s).ports = s.ports := rfl
@[simp] theorem setPeers_link (es : List Peer) (s : State) : (setPeers es s).link = s.link := rfl
@[simp] theorem setPeers_timers (es : List Peer) (s : State) : (setPeers es s).timers = s.timers := rfl
@[simp] theorem setPeers_draws (es : List Peer) (s : State) : (setPeers es s).draws = s.draws := rfl
@[simp] theorem setPeers_pending (es : List Peer) (s : State) : (setPeers es s).pending = s.pending := rfl
@[simp] theorem setPeers_entry (es : List Peer) (s : State) (d : Cause) : (setPeers es s).entry d = s.entry d := rfl

/-! ## setStrainChannel (R134) -/

@[simp] theorem setStrainChannel_time (i : Fin 32) (c : StrainChannel) (s : State) : (setStrainChannel i c s).time = s.time := rfl
@[simp] theorem setStrainChannel_settings (i : Fin 32) (c : StrainChannel) (s : State) : (setStrainChannel i c s).settings = s.settings := rfl
@[simp] theorem setStrainChannel_posture (i : Fin 32) (c : StrainChannel) (s : State) : (setStrainChannel i c s).posture = s.posture := rfl
@[simp] theorem setStrainChannel_causes (i : Fin 32) (c : StrainChannel) (s : State) : (setStrainChannel i c s).causes = s.causes := rfl
@[simp] theorem setStrainChannel_holdRecord (i : Fin 32) (c : StrainChannel) (s : State) : (setStrainChannel i c s).holdRecord = s.holdRecord := rfl
@[simp] theorem setStrainChannel_unloadRecord (i : Fin 32) (c : StrainChannel) (s : State) : (setStrainChannel i c s).unloadRecord = s.unloadRecord := rfl
@[simp] theorem setStrainChannel_program (i : Fin 32) (c : StrainChannel) (s : State) : (setStrainChannel i c s).program = s.program := rfl
@[simp] theorem setStrainChannel_servo (i : Fin 32) (c : StrainChannel) (s : State) : (setStrainChannel i c s).servo = s.servo := rfl
@[simp] theorem setStrainChannel_line (i : Fin 32) (c : StrainChannel) (s : State) : (setStrainChannel i c s).line = s.line := rfl
@[simp] theorem setStrainChannel_peers (i : Fin 32) (c : StrainChannel) (s : State) : (setStrainChannel i c s).peers = s.peers := rfl
@[simp] theorem setStrainChannel_crack (i : Fin 32) (c : StrainChannel) (s : State) : (setStrainChannel i c s).crack = s.crack := rfl
@[simp] theorem setStrainChannel_ports (i : Fin 32) (c : StrainChannel) (s : State) : (setStrainChannel i c s).ports = s.ports := rfl
@[simp] theorem setStrainChannel_link (i : Fin 32) (c : StrainChannel) (s : State) : (setStrainChannel i c s).link = s.link := rfl
@[simp] theorem setStrainChannel_timers (i : Fin 32) (c : StrainChannel) (s : State) : (setStrainChannel i c s).timers = s.timers := rfl
@[simp] theorem setStrainChannel_draws (i : Fin 32) (c : StrainChannel) (s : State) : (setStrainChannel i c s).draws = s.draws := rfl
@[simp] theorem setStrainChannel_pending (i : Fin 32) (c : StrainChannel) (s : State) : (setStrainChannel i c s).pending = s.pending := rfl
@[simp] theorem setStrainChannel_entry (i : Fin 32) (c : StrainChannel) (s : State) (d : Cause) : (setStrainChannel i c s).entry d = s.entry d := rfl

/-! ## setDriftRecord (R152) -/

@[simp] theorem setDriftRecord_time (i : Fin 32) (r : DriftRecord) (s : State) : (setDriftRecord i r s).time = s.time := rfl
@[simp] theorem setDriftRecord_settings (i : Fin 32) (r : DriftRecord) (s : State) : (setDriftRecord i r s).settings = s.settings := rfl
@[simp] theorem setDriftRecord_posture (i : Fin 32) (r : DriftRecord) (s : State) : (setDriftRecord i r s).posture = s.posture := rfl
@[simp] theorem setDriftRecord_causes (i : Fin 32) (r : DriftRecord) (s : State) : (setDriftRecord i r s).causes = s.causes := rfl
@[simp] theorem setDriftRecord_holdRecord (i : Fin 32) (r : DriftRecord) (s : State) : (setDriftRecord i r s).holdRecord = s.holdRecord := rfl
@[simp] theorem setDriftRecord_unloadRecord (i : Fin 32) (r : DriftRecord) (s : State) : (setDriftRecord i r s).unloadRecord = s.unloadRecord := rfl
@[simp] theorem setDriftRecord_program (i : Fin 32) (r : DriftRecord) (s : State) : (setDriftRecord i r s).program = s.program := rfl
@[simp] theorem setDriftRecord_servo (i : Fin 32) (r : DriftRecord) (s : State) : (setDriftRecord i r s).servo = s.servo := rfl
@[simp] theorem setDriftRecord_line (i : Fin 32) (r : DriftRecord) (s : State) : (setDriftRecord i r s).line = s.line := rfl
@[simp] theorem setDriftRecord_peers (i : Fin 32) (r : DriftRecord) (s : State) : (setDriftRecord i r s).peers = s.peers := rfl
@[simp] theorem setDriftRecord_crack (i : Fin 32) (r : DriftRecord) (s : State) : (setDriftRecord i r s).crack = s.crack := rfl
@[simp] theorem setDriftRecord_ports (i : Fin 32) (r : DriftRecord) (s : State) : (setDriftRecord i r s).ports = s.ports := rfl
@[simp] theorem setDriftRecord_link (i : Fin 32) (r : DriftRecord) (s : State) : (setDriftRecord i r s).link = s.link := rfl
@[simp] theorem setDriftRecord_timers (i : Fin 32) (r : DriftRecord) (s : State) : (setDriftRecord i r s).timers = s.timers := rfl
@[simp] theorem setDriftRecord_draws (i : Fin 32) (r : DriftRecord) (s : State) : (setDriftRecord i r s).draws = s.draws := rfl
@[simp] theorem setDriftRecord_pending (i : Fin 32) (r : DriftRecord) (s : State) : (setDriftRecord i r s).pending = s.pending := rfl
@[simp] theorem setDriftRecord_entry (i : Fin 32) (r : DriftRecord) (s : State) (d : Cause) : (setDriftRecord i r s).entry d = s.entry d := rfl

/-! ## setCrackChannel (R164) -/

@[simp] theorem setCrackChannel_time (i : Fin 8) (c : CrackChannel) (s : State) : (setCrackChannel i c s).time = s.time := rfl
@[simp] theorem setCrackChannel_settings (i : Fin 8) (c : CrackChannel) (s : State) : (setCrackChannel i c s).settings = s.settings := rfl
@[simp] theorem setCrackChannel_posture (i : Fin 8) (c : CrackChannel) (s : State) : (setCrackChannel i c s).posture = s.posture := rfl
@[simp] theorem setCrackChannel_causes (i : Fin 8) (c : CrackChannel) (s : State) : (setCrackChannel i c s).causes = s.causes := rfl
@[simp] theorem setCrackChannel_holdRecord (i : Fin 8) (c : CrackChannel) (s : State) : (setCrackChannel i c s).holdRecord = s.holdRecord := rfl
@[simp] theorem setCrackChannel_unloadRecord (i : Fin 8) (c : CrackChannel) (s : State) : (setCrackChannel i c s).unloadRecord = s.unloadRecord := rfl
@[simp] theorem setCrackChannel_program (i : Fin 8) (c : CrackChannel) (s : State) : (setCrackChannel i c s).program = s.program := rfl
@[simp] theorem setCrackChannel_servo (i : Fin 8) (c : CrackChannel) (s : State) : (setCrackChannel i c s).servo = s.servo := rfl
@[simp] theorem setCrackChannel_line (i : Fin 8) (c : CrackChannel) (s : State) : (setCrackChannel i c s).line = s.line := rfl
@[simp] theorem setCrackChannel_peers (i : Fin 8) (c : CrackChannel) (s : State) : (setCrackChannel i c s).peers = s.peers := rfl
@[simp] theorem setCrackChannel_strain (i : Fin 8) (c : CrackChannel) (s : State) : (setCrackChannel i c s).strain = s.strain := rfl
@[simp] theorem setCrackChannel_ports (i : Fin 8) (c : CrackChannel) (s : State) : (setCrackChannel i c s).ports = s.ports := rfl
@[simp] theorem setCrackChannel_link (i : Fin 8) (c : CrackChannel) (s : State) : (setCrackChannel i c s).link = s.link := rfl
@[simp] theorem setCrackChannel_timers (i : Fin 8) (c : CrackChannel) (s : State) : (setCrackChannel i c s).timers = s.timers := rfl
@[simp] theorem setCrackChannel_draws (i : Fin 8) (c : CrackChannel) (s : State) : (setCrackChannel i c s).draws = s.draws := rfl
@[simp] theorem setCrackChannel_pending (i : Fin 8) (c : CrackChannel) (s : State) : (setCrackChannel i c s).pending = s.pending := rfl
@[simp] theorem setCrackChannel_entry (i : Fin 8) (c : CrackChannel) (s : State) (d : Cause) : (setCrackChannel i c s).entry d = s.entry d := rfl

/-! ## setDetector (R167) -/

@[simp] theorem setDetector_time (i : Fin 8) (x : Detector) (s : State) : (setDetector i x s).time = s.time := rfl
@[simp] theorem setDetector_settings (i : Fin 8) (x : Detector) (s : State) : (setDetector i x s).settings = s.settings := rfl
@[simp] theorem setDetector_posture (i : Fin 8) (x : Detector) (s : State) : (setDetector i x s).posture = s.posture := rfl
@[simp] theorem setDetector_causes (i : Fin 8) (x : Detector) (s : State) : (setDetector i x s).causes = s.causes := rfl
@[simp] theorem setDetector_holdRecord (i : Fin 8) (x : Detector) (s : State) : (setDetector i x s).holdRecord = s.holdRecord := rfl
@[simp] theorem setDetector_unloadRecord (i : Fin 8) (x : Detector) (s : State) : (setDetector i x s).unloadRecord = s.unloadRecord := rfl
@[simp] theorem setDetector_program (i : Fin 8) (x : Detector) (s : State) : (setDetector i x s).program = s.program := rfl
@[simp] theorem setDetector_servo (i : Fin 8) (x : Detector) (s : State) : (setDetector i x s).servo = s.servo := rfl
@[simp] theorem setDetector_line (i : Fin 8) (x : Detector) (s : State) : (setDetector i x s).line = s.line := rfl
@[simp] theorem setDetector_peers (i : Fin 8) (x : Detector) (s : State) : (setDetector i x s).peers = s.peers := rfl
@[simp] theorem setDetector_strain (i : Fin 8) (x : Detector) (s : State) : (setDetector i x s).strain = s.strain := rfl
@[simp] theorem setDetector_ports (i : Fin 8) (x : Detector) (s : State) : (setDetector i x s).ports = s.ports := rfl
@[simp] theorem setDetector_link (i : Fin 8) (x : Detector) (s : State) : (setDetector i x s).link = s.link := rfl
@[simp] theorem setDetector_timers (i : Fin 8) (x : Detector) (s : State) : (setDetector i x s).timers = s.timers := rfl
@[simp] theorem setDetector_draws (i : Fin 8) (x : Detector) (s : State) : (setDetector i x s).draws = s.draws := rfl
@[simp] theorem setDetector_pending (i : Fin 8) (x : Detector) (s : State) : (setDetector i x s).pending = s.pending := rfl
@[simp] theorem setDetector_entry (i : Fin 8) (x : Detector) (s : State) (d : Cause) : (setDetector i x s).entry d = s.entry d := rfl

/-! ## setFlight (R28) -/

@[simp] theorem setFlight_time (g : Generator) (s : State) : (setFlight g s).time = s.time := rfl
@[simp] theorem setFlight_settings (g : Generator) (s : State) : (setFlight g s).settings = s.settings := rfl
@[simp] theorem setFlight_posture (g : Generator) (s : State) : (setFlight g s).posture = s.posture := rfl
@[simp] theorem setFlight_causes (g : Generator) (s : State) : (setFlight g s).causes = s.causes := rfl
@[simp] theorem setFlight_holdRecord (g : Generator) (s : State) : (setFlight g s).holdRecord = s.holdRecord := rfl
@[simp] theorem setFlight_unloadRecord (g : Generator) (s : State) : (setFlight g s).unloadRecord = s.unloadRecord := rfl
@[simp] theorem setFlight_servo (g : Generator) (s : State) : (setFlight g s).servo = s.servo := rfl
@[simp] theorem setFlight_line (g : Generator) (s : State) : (setFlight g s).line = s.line := rfl
@[simp] theorem setFlight_peers (g : Generator) (s : State) : (setFlight g s).peers = s.peers := rfl
@[simp] theorem setFlight_strain (g : Generator) (s : State) : (setFlight g s).strain = s.strain := rfl
@[simp] theorem setFlight_crack (g : Generator) (s : State) : (setFlight g s).crack = s.crack := rfl
@[simp] theorem setFlight_ports (g : Generator) (s : State) : (setFlight g s).ports = s.ports := rfl
@[simp] theorem setFlight_link (g : Generator) (s : State) : (setFlight g s).link = s.link := rfl
@[simp] theorem setFlight_timers (g : Generator) (s : State) : (setFlight g s).timers = s.timers := rfl
@[simp] theorem setFlight_draws (g : Generator) (s : State) : (setFlight g s).draws = s.draws := rfl
@[simp] theorem setFlight_pending (g : Generator) (s : State) : (setFlight g s).pending = s.pending := rfl
@[simp] theorem setFlight_entry (g : Generator) (s : State) (d : Cause) : (setFlight g s).entry d = s.entry d := rfl

/-! ## setSetpoint (R27) -/

@[simp] theorem setSetpoint_time (v : Int) (s : State) : (setSetpoint v s).time = s.time := rfl
@[simp] theorem setSetpoint_settings (v : Int) (s : State) : (setSetpoint v s).settings = s.settings := rfl
@[simp] theorem setSetpoint_posture (v : Int) (s : State) : (setSetpoint v s).posture = s.posture := rfl
@[simp] theorem setSetpoint_causes (v : Int) (s : State) : (setSetpoint v s).causes = s.causes := rfl
@[simp] theorem setSetpoint_holdRecord (v : Int) (s : State) : (setSetpoint v s).holdRecord = s.holdRecord := rfl
@[simp] theorem setSetpoint_unloadRecord (v : Int) (s : State) : (setSetpoint v s).unloadRecord = s.unloadRecord := rfl
@[simp] theorem setSetpoint_servo (v : Int) (s : State) : (setSetpoint v s).servo = s.servo := rfl
@[simp] theorem setSetpoint_line (v : Int) (s : State) : (setSetpoint v s).line = s.line := rfl
@[simp] theorem setSetpoint_peers (v : Int) (s : State) : (setSetpoint v s).peers = s.peers := rfl
@[simp] theorem setSetpoint_strain (v : Int) (s : State) : (setSetpoint v s).strain = s.strain := rfl
@[simp] theorem setSetpoint_crack (v : Int) (s : State) : (setSetpoint v s).crack = s.crack := rfl
@[simp] theorem setSetpoint_ports (v : Int) (s : State) : (setSetpoint v s).ports = s.ports := rfl
@[simp] theorem setSetpoint_link (v : Int) (s : State) : (setSetpoint v s).link = s.link := rfl
@[simp] theorem setSetpoint_timers (v : Int) (s : State) : (setSetpoint v s).timers = s.timers := rfl
@[simp] theorem setSetpoint_draws (v : Int) (s : State) : (setSetpoint v s).draws = s.draws := rfl
@[simp] theorem setSetpoint_pending (v : Int) (s : State) : (setSetpoint v s).pending = s.pending := rfl
@[simp] theorem setSetpoint_entry (v : Int) (s : State) (d : Cause) : (setSetpoint v s).entry d = s.entry d := rfl

/-! ## setPort (R24) -/

@[simp] theorem setPort_time (i : Fin 4) (p : PortLine) (s : State) : (setPort i p s).time = s.time := rfl
@[simp] theorem setPort_settings (i : Fin 4) (p : PortLine) (s : State) : (setPort i p s).settings = s.settings := rfl
@[simp] theorem setPort_posture (i : Fin 4) (p : PortLine) (s : State) : (setPort i p s).posture = s.posture := rfl
@[simp] theorem setPort_causes (i : Fin 4) (p : PortLine) (s : State) : (setPort i p s).causes = s.causes := rfl
@[simp] theorem setPort_holdRecord (i : Fin 4) (p : PortLine) (s : State) : (setPort i p s).holdRecord = s.holdRecord := rfl
@[simp] theorem setPort_unloadRecord (i : Fin 4) (p : PortLine) (s : State) : (setPort i p s).unloadRecord = s.unloadRecord := rfl
@[simp] theorem setPort_program (i : Fin 4) (p : PortLine) (s : State) : (setPort i p s).program = s.program := rfl
@[simp] theorem setPort_servo (i : Fin 4) (p : PortLine) (s : State) : (setPort i p s).servo = s.servo := rfl
@[simp] theorem setPort_line (i : Fin 4) (p : PortLine) (s : State) : (setPort i p s).line = s.line := rfl
@[simp] theorem setPort_peers (i : Fin 4) (p : PortLine) (s : State) : (setPort i p s).peers = s.peers := rfl
@[simp] theorem setPort_strain (i : Fin 4) (p : PortLine) (s : State) : (setPort i p s).strain = s.strain := rfl
@[simp] theorem setPort_crack (i : Fin 4) (p : PortLine) (s : State) : (setPort i p s).crack = s.crack := rfl
@[simp] theorem setPort_link (i : Fin 4) (p : PortLine) (s : State) : (setPort i p s).link = s.link := rfl
@[simp] theorem setPort_timers (i : Fin 4) (p : PortLine) (s : State) : (setPort i p s).timers = s.timers := rfl
@[simp] theorem setPort_draws (i : Fin 4) (p : PortLine) (s : State) : (setPort i p s).draws = s.draws := rfl
@[simp] theorem setPort_pending (i : Fin 4) (p : PortLine) (s : State) : (setPort i p s).pending = s.pending := rfl
@[simp] theorem setPort_entry (i : Fin 4) (p : PortLine) (s : State) (d : Cause) : (setPort i p s).entry d = s.entry d := rfl

/-! ## noteSent (R185) -/

@[simp] theorem noteSent_time (bytes : List Byte) (s : State) : (noteSent bytes s).time = s.time := rfl
@[simp] theorem noteSent_settings (bytes : List Byte) (s : State) : (noteSent bytes s).settings = s.settings := rfl
@[simp] theorem noteSent_posture (bytes : List Byte) (s : State) : (noteSent bytes s).posture = s.posture := rfl
@[simp] theorem noteSent_causes (bytes : List Byte) (s : State) : (noteSent bytes s).causes = s.causes := rfl
@[simp] theorem noteSent_holdRecord (bytes : List Byte) (s : State) : (noteSent bytes s).holdRecord = s.holdRecord := rfl
@[simp] theorem noteSent_unloadRecord (bytes : List Byte) (s : State) : (noteSent bytes s).unloadRecord = s.unloadRecord := rfl
@[simp] theorem noteSent_program (bytes : List Byte) (s : State) : (noteSent bytes s).program = s.program := rfl
@[simp] theorem noteSent_servo (bytes : List Byte) (s : State) : (noteSent bytes s).servo = s.servo := rfl
@[simp] theorem noteSent_line (bytes : List Byte) (s : State) : (noteSent bytes s).line = s.line := rfl
@[simp] theorem noteSent_peers (bytes : List Byte) (s : State) : (noteSent bytes s).peers = s.peers := rfl
@[simp] theorem noteSent_strain (bytes : List Byte) (s : State) : (noteSent bytes s).strain = s.strain := rfl
@[simp] theorem noteSent_crack (bytes : List Byte) (s : State) : (noteSent bytes s).crack = s.crack := rfl
@[simp] theorem noteSent_ports (bytes : List Byte) (s : State) : (noteSent bytes s).ports = s.ports := rfl
@[simp] theorem noteSent_timers (bytes : List Byte) (s : State) : (noteSent bytes s).timers = s.timers := rfl
@[simp] theorem noteSent_draws (bytes : List Byte) (s : State) : (noteSent bytes s).draws = s.draws := rfl
@[simp] theorem noteSent_pending (bytes : List Byte) (s : State) : (noteSent bytes s).pending = s.pending := rfl
@[simp] theorem noteSent_entry (bytes : List Byte) (s : State) (d : Cause) : (noteSent bytes s).entry d = s.entry d := rfl

/-! ## composeResponse (R187) -/

@[simp] theorem composeResponse_time (code : Byte) (r : Reply) (s : State) : (composeResponse code r s).time = s.time := rfl
@[simp] theorem composeResponse_settings (code : Byte) (r : Reply) (s : State) : (composeResponse code r s).settings = s.settings := rfl
@[simp] theorem composeResponse_posture (code : Byte) (r : Reply) (s : State) : (composeResponse code r s).posture = s.posture := rfl
@[simp] theorem composeResponse_causes (code : Byte) (r : Reply) (s : State) : (composeResponse code r s).causes = s.causes := rfl
@[simp] theorem composeResponse_holdRecord (code : Byte) (r : Reply) (s : State) : (composeResponse code r s).holdRecord = s.holdRecord := rfl
@[simp] theorem composeResponse_unloadRecord (code : Byte) (r : Reply) (s : State) : (composeResponse code r s).unloadRecord = s.unloadRecord := rfl
@[simp] theorem composeResponse_program (code : Byte) (r : Reply) (s : State) : (composeResponse code r s).program = s.program := rfl
@[simp] theorem composeResponse_servo (code : Byte) (r : Reply) (s : State) : (composeResponse code r s).servo = s.servo := rfl
@[simp] theorem composeResponse_line (code : Byte) (r : Reply) (s : State) : (composeResponse code r s).line = s.line := rfl
@[simp] theorem composeResponse_peers (code : Byte) (r : Reply) (s : State) : (composeResponse code r s).peers = s.peers := rfl
@[simp] theorem composeResponse_strain (code : Byte) (r : Reply) (s : State) : (composeResponse code r s).strain = s.strain := rfl
@[simp] theorem composeResponse_crack (code : Byte) (r : Reply) (s : State) : (composeResponse code r s).crack = s.crack := rfl
@[simp] theorem composeResponse_ports (code : Byte) (r : Reply) (s : State) : (composeResponse code r s).ports = s.ports := rfl
@[simp] theorem composeResponse_timers (code : Byte) (r : Reply) (s : State) : (composeResponse code r s).timers = s.timers := rfl
@[simp] theorem composeResponse_draws (code : Byte) (r : Reply) (s : State) : (composeResponse code r s).draws = s.draws := rfl
@[simp] theorem composeResponse_pending (code : Byte) (r : Reply) (s : State) : (composeResponse code r s).pending = s.pending := rfl
@[simp] theorem composeResponse_entry (code : Byte) (r : Reply) (s : State) (d : Cause) : (composeResponse code r s).entry d = s.entry d := rfl

/-! ## restartSilence (R193) -/

@[simp] theorem restartSilence_time (s : State) : (restartSilence s).time = s.time := rfl
@[simp] theorem restartSilence_settings (s : State) : (restartSilence s).settings = s.settings := rfl
@[simp] theorem restartSilence_posture (s : State) : (restartSilence s).posture = s.posture := rfl
@[simp] theorem restartSilence_causes (s : State) : (restartSilence s).causes = s.causes := rfl
@[simp] theorem restartSilence_holdRecord (s : State) : (restartSilence s).holdRecord = s.holdRecord := rfl
@[simp] theorem restartSilence_unloadRecord (s : State) : (restartSilence s).unloadRecord = s.unloadRecord := rfl
@[simp] theorem restartSilence_program (s : State) : (restartSilence s).program = s.program := rfl
@[simp] theorem restartSilence_servo (s : State) : (restartSilence s).servo = s.servo := rfl
@[simp] theorem restartSilence_line (s : State) : (restartSilence s).line = s.line := rfl
@[simp] theorem restartSilence_peers (s : State) : (restartSilence s).peers = s.peers := rfl
@[simp] theorem restartSilence_strain (s : State) : (restartSilence s).strain = s.strain := rfl
@[simp] theorem restartSilence_crack (s : State) : (restartSilence s).crack = s.crack := rfl
@[simp] theorem restartSilence_ports (s : State) : (restartSilence s).ports = s.ports := rfl
@[simp] theorem restartSilence_timers (s : State) : (restartSilence s).timers = s.timers := rfl
@[simp] theorem restartSilence_draws (s : State) : (restartSilence s).draws = s.draws := rfl
@[simp] theorem restartSilence_pending (s : State) : (restartSilence s).pending = s.pending := rfl
@[simp] theorem restartSilence_entry (s : State) (d : Cause) : (restartSilence s).entry d = s.entry d := rfl

/-! ## dropDemand (R121) -/

@[simp] theorem dropDemand_time (s : State) : (dropDemand s).time = s.time := rfl
@[simp] theorem dropDemand_settings (s : State) : (dropDemand s).settings = s.settings := rfl
@[simp] theorem dropDemand_posture (s : State) : (dropDemand s).posture = s.posture := rfl
@[simp] theorem dropDemand_causes (s : State) : (dropDemand s).causes = s.causes := rfl
@[simp] theorem dropDemand_holdRecord (s : State) : (dropDemand s).holdRecord = s.holdRecord := rfl
@[simp] theorem dropDemand_unloadRecord (s : State) : (dropDemand s).unloadRecord = s.unloadRecord := rfl
@[simp] theorem dropDemand_program (s : State) : (dropDemand s).program = s.program := rfl
@[simp] theorem dropDemand_servo (s : State) : (dropDemand s).servo = s.servo := rfl
@[simp] theorem dropDemand_peers (s : State) : (dropDemand s).peers = s.peers := rfl
@[simp] theorem dropDemand_strain (s : State) : (dropDemand s).strain = s.strain := rfl
@[simp] theorem dropDemand_crack (s : State) : (dropDemand s).crack = s.crack := rfl
@[simp] theorem dropDemand_ports (s : State) : (dropDemand s).ports = s.ports := rfl
@[simp] theorem dropDemand_link (s : State) : (dropDemand s).link = s.link := rfl
@[simp] theorem dropDemand_timers (s : State) : (dropDemand s).timers = s.timers := rfl
@[simp] theorem dropDemand_draws (s : State) : (dropDemand s).draws = s.draws := rfl
@[simp] theorem dropDemand_pending (s : State) : (dropDemand s).pending = s.pending := rfl
@[simp] theorem dropDemand_entry (s : State) (d : Cause) : (dropDemand s).entry d = s.entry d := rfl

/-! ## requireResume (R14) -/

@[simp] theorem requireResume_time (s : State) : (requireResume s).time = s.time := rfl
@[simp] theorem requireResume_settings (s : State) : (requireResume s).settings = s.settings := rfl
@[simp] theorem requireResume_posture (s : State) : (requireResume s).posture = s.posture := rfl
@[simp] theorem requireResume_causes (s : State) : (requireResume s).causes = s.causes := rfl
@[simp] theorem requireResume_unloadRecord (s : State) : (requireResume s).unloadRecord = s.unloadRecord := rfl
@[simp] theorem requireResume_program (s : State) : (requireResume s).program = s.program := rfl
@[simp] theorem requireResume_servo (s : State) : (requireResume s).servo = s.servo := rfl
@[simp] theorem requireResume_line (s : State) : (requireResume s).line = s.line := rfl
@[simp] theorem requireResume_peers (s : State) : (requireResume s).peers = s.peers := rfl
@[simp] theorem requireResume_strain (s : State) : (requireResume s).strain = s.strain := rfl
@[simp] theorem requireResume_crack (s : State) : (requireResume s).crack = s.crack := rfl
@[simp] theorem requireResume_ports (s : State) : (requireResume s).ports = s.ports := rfl
@[simp] theorem requireResume_link (s : State) : (requireResume s).link = s.link := rfl
@[simp] theorem requireResume_timers (s : State) : (requireResume s).timers = s.timers := rfl
@[simp] theorem requireResume_draws (s : State) : (requireResume s).draws = s.draws := rfl
@[simp] theorem requireResume_pending (s : State) : (requireResume s).pending = s.pending := rfl
@[simp] theorem requireResume_entry (s : State) (d : Cause) : (requireResume s).entry d = s.entry d := rfl

/-! ## writeHoldRecord (R14) -/

@[simp] theorem writeHoldRecord_time (c : Cause) (s : State) : (writeHoldRecord c s).time = s.time := rfl
@[simp] theorem writeHoldRecord_settings (c : Cause) (s : State) : (writeHoldRecord c s).settings = s.settings := rfl
@[simp] theorem writeHoldRecord_posture (c : Cause) (s : State) : (writeHoldRecord c s).posture = s.posture := rfl
@[simp] theorem writeHoldRecord_causes (c : Cause) (s : State) : (writeHoldRecord c s).causes = s.causes := rfl
@[simp] theorem writeHoldRecord_unloadRecord (c : Cause) (s : State) : (writeHoldRecord c s).unloadRecord = s.unloadRecord := rfl
@[simp] theorem writeHoldRecord_program (c : Cause) (s : State) : (writeHoldRecord c s).program = s.program := rfl
@[simp] theorem writeHoldRecord_servo (c : Cause) (s : State) : (writeHoldRecord c s).servo = s.servo := rfl
@[simp] theorem writeHoldRecord_line (c : Cause) (s : State) : (writeHoldRecord c s).line = s.line := rfl
@[simp] theorem writeHoldRecord_peers (c : Cause) (s : State) : (writeHoldRecord c s).peers = s.peers := rfl
@[simp] theorem writeHoldRecord_strain (c : Cause) (s : State) : (writeHoldRecord c s).strain = s.strain := rfl
@[simp] theorem writeHoldRecord_crack (c : Cause) (s : State) : (writeHoldRecord c s).crack = s.crack := rfl
@[simp] theorem writeHoldRecord_ports (c : Cause) (s : State) : (writeHoldRecord c s).ports = s.ports := rfl
@[simp] theorem writeHoldRecord_link (c : Cause) (s : State) : (writeHoldRecord c s).link = s.link := rfl
@[simp] theorem writeHoldRecord_timers (c : Cause) (s : State) : (writeHoldRecord c s).timers = s.timers := rfl
@[simp] theorem writeHoldRecord_draws (c : Cause) (s : State) : (writeHoldRecord c s).draws = s.draws := rfl
@[simp] theorem writeHoldRecord_pending (c : Cause) (s : State) : (writeHoldRecord c s).pending = s.pending := rfl
@[simp] theorem writeHoldRecord_entry (c : Cause) (s : State) (d : Cause) : (writeHoldRecord c s).entry d = s.entry d := rfl

/-! ## writeUnloadRecord (R16) -/

@[simp] theorem writeUnloadRecord_time (c : Cause) (s : State) : (writeUnloadRecord c s).time = s.time := rfl
@[simp] theorem writeUnloadRecord_settings (c : Cause) (s : State) : (writeUnloadRecord c s).settings = s.settings := rfl
@[simp] theorem writeUnloadRecord_posture (c : Cause) (s : State) : (writeUnloadRecord c s).posture = s.posture := rfl
@[simp] theorem writeUnloadRecord_causes (c : Cause) (s : State) : (writeUnloadRecord c s).causes = s.causes := rfl
@[simp] theorem writeUnloadRecord_holdRecord (c : Cause) (s : State) : (writeUnloadRecord c s).holdRecord = s.holdRecord := rfl
@[simp] theorem writeUnloadRecord_program (c : Cause) (s : State) : (writeUnloadRecord c s).program = s.program := rfl
@[simp] theorem writeUnloadRecord_servo (c : Cause) (s : State) : (writeUnloadRecord c s).servo = s.servo := rfl
@[simp] theorem writeUnloadRecord_line (c : Cause) (s : State) : (writeUnloadRecord c s).line = s.line := rfl
@[simp] theorem writeUnloadRecord_peers (c : Cause) (s : State) : (writeUnloadRecord c s).peers = s.peers := rfl
@[simp] theorem writeUnloadRecord_strain (c : Cause) (s : State) : (writeUnloadRecord c s).strain = s.strain := rfl
@[simp] theorem writeUnloadRecord_crack (c : Cause) (s : State) : (writeUnloadRecord c s).crack = s.crack := rfl
@[simp] theorem writeUnloadRecord_ports (c : Cause) (s : State) : (writeUnloadRecord c s).ports = s.ports := rfl
@[simp] theorem writeUnloadRecord_link (c : Cause) (s : State) : (writeUnloadRecord c s).link = s.link := rfl
@[simp] theorem writeUnloadRecord_timers (c : Cause) (s : State) : (writeUnloadRecord c s).timers = s.timers := rfl
@[simp] theorem writeUnloadRecord_draws (c : Cause) (s : State) : (writeUnloadRecord c s).draws = s.draws := rfl
@[simp] theorem writeUnloadRecord_pending (c : Cause) (s : State) : (writeUnloadRecord c s).pending = s.pending := rfl
@[simp] theorem writeUnloadRecord_entry (c : Cause) (s : State) (d : Cause) : (writeUnloadRecord c s).entry d = s.entry d := rfl

/-! ## setOutcome (R18) -/

@[simp] theorem setOutcome_time (o : UnloadOutcome) (s : State) : (setOutcome o s).time = s.time := rfl
@[simp] theorem setOutcome_settings (o : UnloadOutcome) (s : State) : (setOutcome o s).settings = s.settings := rfl
@[simp] theorem setOutcome_posture (o : UnloadOutcome) (s : State) : (setOutcome o s).posture = s.posture := rfl
@[simp] theorem setOutcome_causes (o : UnloadOutcome) (s : State) : (setOutcome o s).causes = s.causes := rfl
@[simp] theorem setOutcome_holdRecord (o : UnloadOutcome) (s : State) : (setOutcome o s).holdRecord = s.holdRecord := rfl
@[simp] theorem setOutcome_program (o : UnloadOutcome) (s : State) : (setOutcome o s).program = s.program := rfl
@[simp] theorem setOutcome_servo (o : UnloadOutcome) (s : State) : (setOutcome o s).servo = s.servo := rfl
@[simp] theorem setOutcome_line (o : UnloadOutcome) (s : State) : (setOutcome o s).line = s.line := rfl
@[simp] theorem setOutcome_peers (o : UnloadOutcome) (s : State) : (setOutcome o s).peers = s.peers := rfl
@[simp] theorem setOutcome_strain (o : UnloadOutcome) (s : State) : (setOutcome o s).strain = s.strain := rfl
@[simp] theorem setOutcome_crack (o : UnloadOutcome) (s : State) : (setOutcome o s).crack = s.crack := rfl
@[simp] theorem setOutcome_ports (o : UnloadOutcome) (s : State) : (setOutcome o s).ports = s.ports := rfl
@[simp] theorem setOutcome_link (o : UnloadOutcome) (s : State) : (setOutcome o s).link = s.link := rfl
@[simp] theorem setOutcome_timers (o : UnloadOutcome) (s : State) : (setOutcome o s).timers = s.timers := rfl
@[simp] theorem setOutcome_draws (o : UnloadOutcome) (s : State) : (setOutcome o s).draws = s.draws := rfl
@[simp] theorem setOutcome_pending (o : UnloadOutcome) (s : State) : (setOutcome o s).pending = s.pending := rfl
@[simp] theorem setOutcome_entry (o : UnloadOutcome) (s : State) (d : Cause) : (setOutcome o s).entry d = s.entry d := rfl

/-! ## appendLater (R17) -/

@[simp] theorem appendLater_time (c : Cause) (s : State) : (appendLater c s).time = s.time := rfl
@[simp] theorem appendLater_settings (c : Cause) (s : State) : (appendLater c s).settings = s.settings := rfl
@[simp] theorem appendLater_posture (c : Cause) (s : State) : (appendLater c s).posture = s.posture := rfl
@[simp] theorem appendLater_causes (c : Cause) (s : State) : (appendLater c s).causes = s.causes := rfl
@[simp] theorem appendLater_holdRecord (c : Cause) (s : State) : (appendLater c s).holdRecord = s.holdRecord := rfl
@[simp] theorem appendLater_program (c : Cause) (s : State) : (appendLater c s).program = s.program := rfl
@[simp] theorem appendLater_servo (c : Cause) (s : State) : (appendLater c s).servo = s.servo := rfl
@[simp] theorem appendLater_line (c : Cause) (s : State) : (appendLater c s).line = s.line := rfl
@[simp] theorem appendLater_peers (c : Cause) (s : State) : (appendLater c s).peers = s.peers := rfl
@[simp] theorem appendLater_strain (c : Cause) (s : State) : (appendLater c s).strain = s.strain := rfl
@[simp] theorem appendLater_crack (c : Cause) (s : State) : (appendLater c s).crack = s.crack := rfl
@[simp] theorem appendLater_ports (c : Cause) (s : State) : (appendLater c s).ports = s.ports := rfl
@[simp] theorem appendLater_link (c : Cause) (s : State) : (appendLater c s).link = s.link := rfl
@[simp] theorem appendLater_timers (c : Cause) (s : State) : (appendLater c s).timers = s.timers := rfl
@[simp] theorem appendLater_draws (c : Cause) (s : State) : (appendLater c s).draws = s.draws := rfl
@[simp] theorem appendLater_pending (c : Cause) (s : State) : (appendLater c s).pending = s.pending := rfl
@[simp] theorem appendLater_entry (c : Cause) (s : State) (d : Cause) : (appendLater c s).entry d = s.entry d := rfl

/-! ## placeUnloadNotice (R78) -/

@[simp] theorem placeUnloadNotice_time (c : NoticeContent) (s : State) : (placeUnloadNotice c s).time = s.time := rfl
@[simp] theorem placeUnloadNotice_settings (c : NoticeContent) (s : State) : (placeUnloadNotice c s).settings = s.settings := rfl
@[simp] theorem placeUnloadNotice_posture (c : NoticeContent) (s : State) : (placeUnloadNotice c s).posture = s.posture := rfl
@[simp] theorem placeUnloadNotice_causes (c : NoticeContent) (s : State) : (placeUnloadNotice c s).causes = s.causes := rfl
@[simp] theorem placeUnloadNotice_holdRecord (c : NoticeContent) (s : State) : (placeUnloadNotice c s).holdRecord = s.holdRecord := rfl
@[simp] theorem placeUnloadNotice_unloadRecord (c : NoticeContent) (s : State) : (placeUnloadNotice c s).unloadRecord = s.unloadRecord := rfl
@[simp] theorem placeUnloadNotice_program (c : NoticeContent) (s : State) : (placeUnloadNotice c s).program = s.program := rfl
@[simp] theorem placeUnloadNotice_servo (c : NoticeContent) (s : State) : (placeUnloadNotice c s).servo = s.servo := rfl
@[simp] theorem placeUnloadNotice_peers (c : NoticeContent) (s : State) : (placeUnloadNotice c s).peers = s.peers := rfl
@[simp] theorem placeUnloadNotice_strain (c : NoticeContent) (s : State) : (placeUnloadNotice c s).strain = s.strain := rfl
@[simp] theorem placeUnloadNotice_crack (c : NoticeContent) (s : State) : (placeUnloadNotice c s).crack = s.crack := rfl
@[simp] theorem placeUnloadNotice_ports (c : NoticeContent) (s : State) : (placeUnloadNotice c s).ports = s.ports := rfl
@[simp] theorem placeUnloadNotice_link (c : NoticeContent) (s : State) : (placeUnloadNotice c s).link = s.link := rfl
@[simp] theorem placeUnloadNotice_timers (c : NoticeContent) (s : State) : (placeUnloadNotice c s).timers = s.timers := rfl
@[simp] theorem placeUnloadNotice_draws (c : NoticeContent) (s : State) : (placeUnloadNotice c s).draws = s.draws := rfl
@[simp] theorem placeUnloadNotice_pending (c : NoticeContent) (s : State) : (placeUnloadNotice c s).pending = s.pending := rfl
@[simp] theorem placeUnloadNotice_entry (c : NoticeContent) (s : State) (d : Cause) : (placeUnloadNotice c s).entry d = s.entry d := rfl

/-! ## placeHoldNotice (R78) -/

@[simp] theorem placeHoldNotice_time (c : NoticeContent) (s : State) : (placeHoldNotice c s).time = s.time := rfl
@[simp] theorem placeHoldNotice_settings (c : NoticeContent) (s : State) : (placeHoldNotice c s).settings = s.settings := rfl
@[simp] theorem placeHoldNotice_posture (c : NoticeContent) (s : State) : (placeHoldNotice c s).posture = s.posture := rfl
@[simp] theorem placeHoldNotice_causes (c : NoticeContent) (s : State) : (placeHoldNotice c s).causes = s.causes := rfl
@[simp] theorem placeHoldNotice_holdRecord (c : NoticeContent) (s : State) : (placeHoldNotice c s).holdRecord = s.holdRecord := rfl
@[simp] theorem placeHoldNotice_unloadRecord (c : NoticeContent) (s : State) : (placeHoldNotice c s).unloadRecord = s.unloadRecord := rfl
@[simp] theorem placeHoldNotice_program (c : NoticeContent) (s : State) : (placeHoldNotice c s).program = s.program := rfl
@[simp] theorem placeHoldNotice_servo (c : NoticeContent) (s : State) : (placeHoldNotice c s).servo = s.servo := rfl
@[simp] theorem placeHoldNotice_peers (c : NoticeContent) (s : State) : (placeHoldNotice c s).peers = s.peers := rfl
@[simp] theorem placeHoldNotice_strain (c : NoticeContent) (s : State) : (placeHoldNotice c s).strain = s.strain := rfl
@[simp] theorem placeHoldNotice_crack (c : NoticeContent) (s : State) : (placeHoldNotice c s).crack = s.crack := rfl
@[simp] theorem placeHoldNotice_ports (c : NoticeContent) (s : State) : (placeHoldNotice c s).ports = s.ports := rfl
@[simp] theorem placeHoldNotice_link (c : NoticeContent) (s : State) : (placeHoldNotice c s).link = s.link := rfl
@[simp] theorem placeHoldNotice_timers (c : NoticeContent) (s : State) : (placeHoldNotice c s).timers = s.timers := rfl
@[simp] theorem placeHoldNotice_draws (c : NoticeContent) (s : State) : (placeHoldNotice c s).draws = s.draws := rfl
@[simp] theorem placeHoldNotice_pending (c : NoticeContent) (s : State) : (placeHoldNotice c s).pending = s.pending := rfl
@[simp] theorem placeHoldNotice_entry (c : NoticeContent) (s : State) (d : Cause) : (placeHoldNotice c s).entry d = s.entry d := rfl

/-! ## emptyHoldSlot (R78) -/

@[simp] theorem emptyHoldSlot_time (s : State) : (emptyHoldSlot s).time = s.time := rfl
@[simp] theorem emptyHoldSlot_settings (s : State) : (emptyHoldSlot s).settings = s.settings := rfl
@[simp] theorem emptyHoldSlot_posture (s : State) : (emptyHoldSlot s).posture = s.posture := rfl
@[simp] theorem emptyHoldSlot_causes (s : State) : (emptyHoldSlot s).causes = s.causes := rfl
@[simp] theorem emptyHoldSlot_holdRecord (s : State) : (emptyHoldSlot s).holdRecord = s.holdRecord := rfl
@[simp] theorem emptyHoldSlot_unloadRecord (s : State) : (emptyHoldSlot s).unloadRecord = s.unloadRecord := rfl
@[simp] theorem emptyHoldSlot_program (s : State) : (emptyHoldSlot s).program = s.program := rfl
@[simp] theorem emptyHoldSlot_servo (s : State) : (emptyHoldSlot s).servo = s.servo := rfl
@[simp] theorem emptyHoldSlot_peers (s : State) : (emptyHoldSlot s).peers = s.peers := rfl
@[simp] theorem emptyHoldSlot_strain (s : State) : (emptyHoldSlot s).strain = s.strain := rfl
@[simp] theorem emptyHoldSlot_crack (s : State) : (emptyHoldSlot s).crack = s.crack := rfl
@[simp] theorem emptyHoldSlot_ports (s : State) : (emptyHoldSlot s).ports = s.ports := rfl
@[simp] theorem emptyHoldSlot_link (s : State) : (emptyHoldSlot s).link = s.link := rfl
@[simp] theorem emptyHoldSlot_timers (s : State) : (emptyHoldSlot s).timers = s.timers := rfl
@[simp] theorem emptyHoldSlot_draws (s : State) : (emptyHoldSlot s).draws = s.draws := rfl
@[simp] theorem emptyHoldSlot_pending (s : State) : (emptyHoldSlot s).pending = s.pending := rfl
@[simp] theorem emptyHoldSlot_entry (s : State) (d : Cause) : (emptyHoldSlot s).entry d = s.entry d := rfl

/-! ## beginUnload (R60) -/

@[simp] theorem beginUnload_time (s : State) : (beginUnload s).time = s.time := rfl
@[simp] theorem beginUnload_settings (s : State) : (beginUnload s).settings = s.settings := rfl
@[simp] theorem beginUnload_posture (s : State) : (beginUnload s).posture = s.posture := rfl
@[simp] theorem beginUnload_causes (s : State) : (beginUnload s).causes = s.causes := rfl
@[simp] theorem beginUnload_holdRecord (s : State) : (beginUnload s).holdRecord = s.holdRecord := rfl
@[simp] theorem beginUnload_unloadRecord (s : State) : (beginUnload s).unloadRecord = s.unloadRecord := rfl
@[simp] theorem beginUnload_program (s : State) : (beginUnload s).program = s.program := rfl
@[simp] theorem beginUnload_line (s : State) : (beginUnload s).line = s.line := rfl
@[simp] theorem beginUnload_peers (s : State) : (beginUnload s).peers = s.peers := rfl
@[simp] theorem beginUnload_strain (s : State) : (beginUnload s).strain = s.strain := rfl
@[simp] theorem beginUnload_crack (s : State) : (beginUnload s).crack = s.crack := rfl
@[simp] theorem beginUnload_ports (s : State) : (beginUnload s).ports = s.ports := rfl
@[simp] theorem beginUnload_link (s : State) : (beginUnload s).link = s.link := rfl
@[simp] theorem beginUnload_timers (s : State) : (beginUnload s).timers = s.timers := rfl
@[simp] theorem beginUnload_draws (s : State) : (beginUnload s).draws = s.draws := rfl
@[simp] theorem beginUnload_pending (s : State) : (beginUnload s).pending = s.pending := rfl
@[simp] theorem beginUnload_entry (s : State) (d : Cause) : (beginUnload s).entry d = s.entry d := rfl

/-! ## restLoop (R65) -/

@[simp] theorem restLoop_time (s : State) : (restLoop s).time = s.time := rfl
@[simp] theorem restLoop_settings (s : State) : (restLoop s).settings = s.settings := rfl
@[simp] theorem restLoop_posture (s : State) : (restLoop s).posture = s.posture := rfl
@[simp] theorem restLoop_causes (s : State) : (restLoop s).causes = s.causes := rfl
@[simp] theorem restLoop_holdRecord (s : State) : (restLoop s).holdRecord = s.holdRecord := rfl
@[simp] theorem restLoop_unloadRecord (s : State) : (restLoop s).unloadRecord = s.unloadRecord := rfl
@[simp] theorem restLoop_program (s : State) : (restLoop s).program = s.program := rfl
@[simp] theorem restLoop_line (s : State) : (restLoop s).line = s.line := rfl
@[simp] theorem restLoop_strain (s : State) : (restLoop s).strain = s.strain := rfl
@[simp] theorem restLoop_crack (s : State) : (restLoop s).crack = s.crack := rfl
@[simp] theorem restLoop_ports (s : State) : (restLoop s).ports = s.ports := rfl
@[simp] theorem restLoop_link (s : State) : (restLoop s).link = s.link := rfl
@[simp] theorem restLoop_timers (s : State) : (restLoop s).timers = s.timers := rfl
@[simp] theorem restLoop_draws (s : State) : (restLoop s).draws = s.draws := rfl
@[simp] theorem restLoop_pending (s : State) : (restLoop s).pending = s.pending := rfl
@[simp] theorem restLoop_entry (s : State) (d : Cause) : (restLoop s).entry d = s.entry d := rfl

/-! ## evalDerate (R143) -/

@[simp] theorem evalDerate_time (s : State) : (evalDerate s).time = s.time := rfl
@[simp] theorem evalDerate_settings (s : State) : (evalDerate s).settings = s.settings := rfl
@[simp] theorem evalDerate_posture (s : State) : (evalDerate s).posture = s.posture := rfl
@[simp] theorem evalDerate_causes (s : State) : (evalDerate s).causes = s.causes := rfl
@[simp] theorem evalDerate_holdRecord (s : State) : (evalDerate s).holdRecord = s.holdRecord := rfl
@[simp] theorem evalDerate_unloadRecord (s : State) : (evalDerate s).unloadRecord = s.unloadRecord := rfl
@[simp] theorem evalDerate_program (s : State) : (evalDerate s).program = s.program := rfl
@[simp] theorem evalDerate_servo (s : State) : (evalDerate s).servo = s.servo := rfl
@[simp] theorem evalDerate_line (s : State) : (evalDerate s).line = s.line := rfl
@[simp] theorem evalDerate_peers (s : State) : (evalDerate s).peers = s.peers := rfl
@[simp] theorem evalDerate_crack (s : State) : (evalDerate s).crack = s.crack := rfl
@[simp] theorem evalDerate_ports (s : State) : (evalDerate s).ports = s.ports := rfl
@[simp] theorem evalDerate_link (s : State) : (evalDerate s).link = s.link := rfl
@[simp] theorem evalDerate_timers (s : State) : (evalDerate s).timers = s.timers := rfl
@[simp] theorem evalDerate_draws (s : State) : (evalDerate s).draws = s.draws := rfl
@[simp] theorem evalDerate_pending (s : State) : (evalDerate s).pending = s.pending := rfl
@[simp] theorem evalDerate_entry (s : State) (d : Cause) : (evalDerate s).entry d = s.entry d := rfl

/-! ## dropHits (R176) -/

@[simp] theorem dropHits_time (s : State) : (dropHits s).time = s.time := rfl
@[simp] theorem dropHits_settings (s : State) : (dropHits s).settings = s.settings := rfl
@[simp] theorem dropHits_posture (s : State) : (dropHits s).posture = s.posture := rfl
@[simp] theorem dropHits_causes (s : State) : (dropHits s).causes = s.causes := rfl
@[simp] theorem dropHits_holdRecord (s : State) : (dropHits s).holdRecord = s.holdRecord := rfl
@[simp] theorem dropHits_unloadRecord (s : State) : (dropHits s).unloadRecord = s.unloadRecord := rfl
@[simp] theorem dropHits_program (s : State) : (dropHits s).program = s.program := rfl
@[simp] theorem dropHits_servo (s : State) : (dropHits s).servo = s.servo := rfl
@[simp] theorem dropHits_line (s : State) : (dropHits s).line = s.line := rfl
@[simp] theorem dropHits_peers (s : State) : (dropHits s).peers = s.peers := rfl
@[simp] theorem dropHits_strain (s : State) : (dropHits s).strain = s.strain := rfl
@[simp] theorem dropHits_ports (s : State) : (dropHits s).ports = s.ports := rfl
@[simp] theorem dropHits_link (s : State) : (dropHits s).link = s.link := rfl
@[simp] theorem dropHits_timers (s : State) : (dropHits s).timers = s.timers := rfl
@[simp] theorem dropHits_draws (s : State) : (dropHits s).draws = s.draws := rfl
@[simp] theorem dropHits_pending (s : State) : (dropHits s).pending = s.pending := rfl
@[simp] theorem dropHits_entry (s : State) (d : Cause) : (dropHits s).entry d = s.entry d := rfl

/-! ## dropNotices (R191) -/

@[simp] theorem dropNotices_time (s : State) : (dropNotices s).time = s.time := rfl
@[simp] theorem dropNotices_settings (s : State) : (dropNotices s).settings = s.settings := rfl
@[simp] theorem dropNotices_posture (s : State) : (dropNotices s).posture = s.posture := rfl
@[simp] theorem dropNotices_causes (s : State) : (dropNotices s).causes = s.causes := rfl
@[simp] theorem dropNotices_holdRecord (s : State) : (dropNotices s).holdRecord = s.holdRecord := rfl
@[simp] theorem dropNotices_unloadRecord (s : State) : (dropNotices s).unloadRecord = s.unloadRecord := rfl
@[simp] theorem dropNotices_program (s : State) : (dropNotices s).program = s.program := rfl
@[simp] theorem dropNotices_servo (s : State) : (dropNotices s).servo = s.servo := rfl
@[simp] theorem dropNotices_line (s : State) : (dropNotices s).line = s.line := rfl
@[simp] theorem dropNotices_peers (s : State) : (dropNotices s).peers = s.peers := rfl
@[simp] theorem dropNotices_strain (s : State) : (dropNotices s).strain = s.strain := rfl
@[simp] theorem dropNotices_crack (s : State) : (dropNotices s).crack = s.crack := rfl
@[simp] theorem dropNotices_ports (s : State) : (dropNotices s).ports = s.ports := rfl
@[simp] theorem dropNotices_timers (s : State) : (dropNotices s).timers = s.timers := rfl
@[simp] theorem dropNotices_draws (s : State) : (dropNotices s).draws = s.draws := rfl
@[simp] theorem dropNotices_pending (s : State) : (dropNotices s).pending = s.pending := rfl
@[simp] theorem dropNotices_entry (s : State) (d : Cause) : (dropNotices s).entry d = s.entry d := rfl

/-! ## clearPeak (R51) -/

@[simp] theorem clearPeak_time (s : State) : (clearPeak s).time = s.time := rfl
@[simp] theorem clearPeak_settings (s : State) : (clearPeak s).settings = s.settings := rfl
@[simp] theorem clearPeak_posture (s : State) : (clearPeak s).posture = s.posture := rfl
@[simp] theorem clearPeak_causes (s : State) : (clearPeak s).causes = s.causes := rfl
@[simp] theorem clearPeak_holdRecord (s : State) : (clearPeak s).holdRecord = s.holdRecord := rfl
@[simp] theorem clearPeak_unloadRecord (s : State) : (clearPeak s).unloadRecord = s.unloadRecord := rfl
@[simp] theorem clearPeak_program (s : State) : (clearPeak s).program = s.program := rfl
@[simp] theorem clearPeak_line (s : State) : (clearPeak s).line = s.line := rfl
@[simp] theorem clearPeak_peers (s : State) : (clearPeak s).peers = s.peers := rfl
@[simp] theorem clearPeak_strain (s : State) : (clearPeak s).strain = s.strain := rfl
@[simp] theorem clearPeak_crack (s : State) : (clearPeak s).crack = s.crack := rfl
@[simp] theorem clearPeak_ports (s : State) : (clearPeak s).ports = s.ports := rfl
@[simp] theorem clearPeak_link (s : State) : (clearPeak s).link = s.link := rfl
@[simp] theorem clearPeak_timers (s : State) : (clearPeak s).timers = s.timers := rfl
@[simp] theorem clearPeak_draws (s : State) : (clearPeak s).draws = s.draws := rfl
@[simp] theorem clearPeak_pending (s : State) : (clearPeak s).pending = s.pending := rfl
@[simp] theorem clearPeak_entry (s : State) (d : Cause) : (clearPeak s).entry d = s.entry d := rfl

/-! ## clearExtremes (R145) -/

@[simp] theorem clearExtremes_time (s : State) : (clearExtremes s).time = s.time := by simp only [clearExtremes]
@[simp] theorem clearExtremes_settings (s : State) : (clearExtremes s).settings = s.settings := by simp only [clearExtremes]
@[simp] theorem clearExtremes_posture (s : State) : (clearExtremes s).posture = s.posture := by simp only [clearExtremes]
@[simp] theorem clearExtremes_causes (s : State) : (clearExtremes s).causes = s.causes := by simp only [clearExtremes]
@[simp] theorem clearExtremes_holdRecord (s : State) : (clearExtremes s).holdRecord = s.holdRecord := by simp only [clearExtremes]
@[simp] theorem clearExtremes_unloadRecord (s : State) : (clearExtremes s).unloadRecord = s.unloadRecord := by simp only [clearExtremes]
@[simp] theorem clearExtremes_program (s : State) : (clearExtremes s).program = s.program := by simp only [clearExtremes]
@[simp] theorem clearExtremes_servo (s : State) : (clearExtremes s).servo = s.servo := by simp only [clearExtremes]
@[simp] theorem clearExtremes_line (s : State) : (clearExtremes s).line = s.line := by simp only [clearExtremes]
@[simp] theorem clearExtremes_peers (s : State) : (clearExtremes s).peers = s.peers := by simp only [clearExtremes]
@[simp] theorem clearExtremes_crack (s : State) : (clearExtremes s).crack = s.crack := by simp only [clearExtremes]
@[simp] theorem clearExtremes_ports (s : State) : (clearExtremes s).ports = s.ports := by simp only [clearExtremes]
@[simp] theorem clearExtremes_link (s : State) : (clearExtremes s).link = s.link := by simp only [clearExtremes]
@[simp] theorem clearExtremes_timers (s : State) : (clearExtremes s).timers = s.timers := by simp only [clearExtremes]
@[simp] theorem clearExtremes_draws (s : State) : (clearExtremes s).draws = s.draws := by simp only [clearExtremes]
@[simp] theorem clearExtremes_pending (s : State) : (clearExtremes s).pending = s.pending := by simp only [clearExtremes]
@[simp] theorem clearExtremes_entry (s : State) (d : Cause) : (clearExtremes s).entry d = s.entry d := by simp only [clearExtremes, State.entry]

/-! ## reclampQueue (R32) -/

@[simp] theorem reclampQueue_time (s : State) : (reclampQueue s).time = s.time := rfl
@[simp] theorem reclampQueue_settings (s : State) : (reclampQueue s).settings = s.settings := rfl
@[simp] theorem reclampQueue_posture (s : State) : (reclampQueue s).posture = s.posture := rfl
@[simp] theorem reclampQueue_causes (s : State) : (reclampQueue s).causes = s.causes := rfl
@[simp] theorem reclampQueue_holdRecord (s : State) : (reclampQueue s).holdRecord = s.holdRecord := rfl
@[simp] theorem reclampQueue_unloadRecord (s : State) : (reclampQueue s).unloadRecord = s.unloadRecord := rfl
@[simp] theorem reclampQueue_servo (s : State) : (reclampQueue s).servo = s.servo := rfl
@[simp] theorem reclampQueue_line (s : State) : (reclampQueue s).line = s.line := rfl
@[simp] theorem reclampQueue_peers (s : State) : (reclampQueue s).peers = s.peers := rfl
@[simp] theorem reclampQueue_strain (s : State) : (reclampQueue s).strain = s.strain := rfl
@[simp] theorem reclampQueue_crack (s : State) : (reclampQueue s).crack = s.crack := rfl
@[simp] theorem reclampQueue_ports (s : State) : (reclampQueue s).ports = s.ports := rfl
@[simp] theorem reclampQueue_link (s : State) : (reclampQueue s).link = s.link := rfl
@[simp] theorem reclampQueue_timers (s : State) : (reclampQueue s).timers = s.timers := rfl
@[simp] theorem reclampQueue_draws (s : State) : (reclampQueue s).draws = s.draws := rfl
@[simp] theorem reclampQueue_pending (s : State) : (reclampQueue s).pending = s.pending := rfl
@[simp] theorem reclampQueue_entry (s : State) (d : Cause) : (reclampQueue s).entry d = s.entry d := rfl

/-! ## startZeroing (R146) -/

@[simp] theorem startZeroing_time (mask : BitVec 32) (s : State) : (startZeroing mask s).time = s.time := by simp only [startZeroing]
@[simp] theorem startZeroing_settings (mask : BitVec 32) (s : State) : (startZeroing mask s).settings = s.settings := by simp only [startZeroing]
@[simp] theorem startZeroing_posture (mask : BitVec 32) (s : State) : (startZeroing mask s).posture = s.posture := by simp only [startZeroing]
@[simp] theorem startZeroing_causes (mask : BitVec 32) (s : State) : (startZeroing mask s).causes = s.causes := by simp only [startZeroing]
@[simp] theorem startZeroing_holdRecord (mask : BitVec 32) (s : State) : (startZeroing mask s).holdRecord = s.holdRecord := by simp only [startZeroing]
@[simp] theorem startZeroing_unloadRecord (mask : BitVec 32) (s : State) : (startZeroing mask s).unloadRecord = s.unloadRecord := by simp only [startZeroing]
@[simp] theorem startZeroing_program (mask : BitVec 32) (s : State) : (startZeroing mask s).program = s.program := by simp only [startZeroing]
@[simp] theorem startZeroing_servo (mask : BitVec 32) (s : State) : (startZeroing mask s).servo = s.servo := by simp only [startZeroing]
@[simp] theorem startZeroing_line (mask : BitVec 32) (s : State) : (startZeroing mask s).line = s.line := by simp only [startZeroing]
@[simp] theorem startZeroing_peers (mask : BitVec 32) (s : State) : (startZeroing mask s).peers = s.peers := by simp only [startZeroing]
@[simp] theorem startZeroing_crack (mask : BitVec 32) (s : State) : (startZeroing mask s).crack = s.crack := by simp only [startZeroing]
@[simp] theorem startZeroing_ports (mask : BitVec 32) (s : State) : (startZeroing mask s).ports = s.ports := by simp only [startZeroing]
@[simp] theorem startZeroing_link (mask : BitVec 32) (s : State) : (startZeroing mask s).link = s.link := by simp only [startZeroing]
@[simp] theorem startZeroing_timers (mask : BitVec 32) (s : State) : (startZeroing mask s).timers = s.timers := by simp only [startZeroing]
@[simp] theorem startZeroing_draws (mask : BitVec 32) (s : State) : (startZeroing mask s).draws = s.draws := by simp only [startZeroing]
@[simp] theorem startZeroing_pending (mask : BitVec 32) (s : State) : (startZeroing mask s).pending = s.pending := by simp only [startZeroing]
@[simp] theorem startZeroing_entry (mask : BitVec 32) (s : State) (d : Cause) : (startZeroing mask s).entry d = s.entry d := by simp only [startZeroing, State.entry]

/-! ## advance (00, Time) -/

@[simp] theorem advance_settings (s : State) : (advance s).settings = s.settings := by simp only [advance]
@[simp] theorem advance_posture (s : State) : (advance s).posture = s.posture := by simp only [advance]
@[simp] theorem advance_causes (s : State) : (advance s).causes = s.causes := by simp only [advance]
@[simp] theorem advance_holdRecord (s : State) : (advance s).holdRecord = s.holdRecord := by simp only [advance]
@[simp] theorem advance_unloadRecord (s : State) : (advance s).unloadRecord = s.unloadRecord := by simp only [advance]
@[simp] theorem advance_program (s : State) : (advance s).program = s.program := by simp only [advance]
@[simp] theorem advance_servo (s : State) : (advance s).servo = s.servo := by simp only [advance]
@[simp] theorem advance_peers (s : State) : (advance s).peers = s.peers := by simp only [advance]
@[simp] theorem advance_strain (s : State) : (advance s).strain = s.strain := by simp only [advance]
@[simp] theorem advance_crack (s : State) : (advance s).crack = s.crack := by simp only [advance]
@[simp] theorem advance_pending (s : State) : (advance s).pending = s.pending := by simp only [advance]
@[simp] theorem advance_entry (s : State) (d : Cause) : (advance s).entry d = s.entry d := by simp only [advance, State.entry]

/-! ## Link and peers, inside the field -/

@[simp] theorem pushNotice_response (n : Notice) (s : State) : (pushNotice n s).link.response = s.link.response := rfl
@[simp] theorem pushNotice_silence (n : Notice) (s : State) : (pushNotice n s).link.silence = s.link.silence := rfl
@[simp] theorem pushNotice_sent (n : Notice) (s : State) : (pushNotice n s).link.sent = s.link.sent := rfl
@[simp] theorem pushNotice_notices (n : Notice) (s : State) :
    (pushNotice n s).link.notices = queueNotice s.time n s.link.notices := rfl
@[simp] theorem setPeers_entries (es : List Peer) (s : State) : (setPeers es s).peers.entries = es := rfl
@[simp] theorem setPeers_trim (es : List Peer) (s : State) : (setPeers es s).peers.trim = s.peers.trim := rfl
@[simp] theorem setLine_line (l : Line) (s : State) : (setLine l s).line = l := rfl
@[simp] theorem dropDemand_holdTime (s : State) : (dropDemand s).line.holdTime = 0 := rfl
@[simp] theorem noteSent_response (bs : List Byte) (s : State) : (noteSent bs s).link.response = s.link.response := rfl
@[simp] theorem noteSent_notices (bs : List Byte) (s : State) : (noteSent bs s).link.notices = s.link.notices := rfl
@[simp] theorem noteSent_silence (bs : List Byte) (s : State) : (noteSent bs s).link.silence = s.link.silence := rfl
@[simp] theorem noteSent_sent (bs : List Byte) (s : State) : (noteSent bs s).link.sent = bs := rfl
@[simp] theorem composeResponse_notices (c : Byte) (r : Reply) (s : State) :
    (composeResponse c r s).link.notices = s.link.notices := rfl
@[simp] theorem composeResponse_silence (c : Byte) (r : Reply) (s : State) :
    (composeResponse c r s).link.silence = s.link.silence := rfl
@[simp] theorem composeResponse_response (c : Byte) (r : Reply) (s : State) :
    (composeResponse c r s).link.response = some (responseBytes c r s.link.notices.length) := rfl
@[simp] theorem restartSilence_notices (s : State) : (restartSilence s).link.notices = s.link.notices := rfl
@[simp] theorem restartSilence_response (s : State) : (restartSilence s).link.response = s.link.response := rfl
@[simp] theorem restartSilence_silence (s : State) :
    (restartSilence s).link.silence = freshSilence s.settings.hostSilence := rfl

/-! ## Vectors, entry by entry -/

@[simp] theorem setPort_getElem (i : Fin 4) (p : PortLine) (s : State) (j : Fin 4) :
    (setPort i p s).ports[j] = if i = j then p else s.ports[j] := by
  simp only [setPort, Fin.getElem_fin, Vector.getElem_set, Fin.ext_iff]

@[simp] theorem setStrainChannel_getElem (i : Fin 32) (c : StrainChannel) (s : State) (j : Fin 32) :
    (setStrainChannel i c s).strain.channels[j] = if i = j then c else s.strain.channels[j] := by
  simp only [setStrainChannel, Fin.getElem_fin, Vector.getElem_set, Fin.ext_iff]

@[simp] theorem setDriftRecord_getElem (i : Fin 32) (r : DriftRecord) (s : State) (j : Fin 32) :
    (setDriftRecord i r s).strain.drift[j] = if i = j then r else s.strain.drift[j] := by
  simp only [setDriftRecord, Fin.getElem_fin, Vector.getElem_set, Fin.ext_iff]

@[simp] theorem setCrackChannel_getElem (i : Fin 8) (c : CrackChannel) (s : State) (j : Fin 8) :
    (setCrackChannel i c s).crack.channels[j] = if i = j then c else s.crack.channels[j] := by
  simp only [setCrackChannel, Fin.getElem_fin, Vector.getElem_set, Fin.ext_iff]

/-! ## Cause entries -/

/-- Different entries have different entry numbers (R3). -/
theorem Cause.number_injective {c d : Cause} (h : c.number = d.number) : c = d := by
  cases c <;> cases d <;> simp [Cause.number, Fin.ext_iff] at h ⊢ <;> omega

/-- The cause table names every entry (R3). -/
theorem Cause.mem_all (c : Cause) : c ∈ Cause.all := by
  cases c <;> simp [Cause.all, List.mem_finRange]

theorem entry_setEntry (c d : Cause) (e : CauseEntry) (s : State) :
    (setEntry c e s).entry d = if c = d then e else s.entry d := by
  by_cases h : c = d
  · subst h; simp [setEntry, State.entry]
  · have : (c.number : Nat) ≠ d.number := fun k => h (Cause.number_injective (Fin.ext k))
    simp [setEntry, State.entry, h, this]

@[simp] theorem entry_setEntry_same (c : Cause) (e : CauseEntry) (s : State) : (setEntry c e s).entry c = e := by
  simp [entry_setEntry]

theorem entry_setEntry_other {c d : Cause} (h : c ≠ d) (e : CauseEntry) (s : State) :
    (setEntry c e s).entry d = s.entry d := by
  simp [entry_setEntry, h]

end Sys2Proof.Laws
end

