-- ==== Sys2Proof/Laws/Posture.lean ====
section
/-! SUPPORT. What the posture controller's work can touch: a report, a latch, a clear or an acknowledgement leaves the
blocks that raise conditions as they were (R2, R5, R13), and touches the cause table at the reported entry alone, but for
the falls of FOLLOWING and VALVE_SAT at an entry into SAFE (R65). -/

namespace Sys2Proof.Laws

open Sys2Proof Sys2Proof.Machine

/-- What every work of the posture controller leaves unchanged. -/
structure Keeps (s t : State) : Prop where
  time : t.time = s.time
  settings : t.settings = s.settings
  strain : t.strain = s.strain
  crack : t.crack = s.crack
  ports : t.ports = s.ports
  timers : t.timers = s.timers
  draws : t.draws = s.draws
  pending : t.pending = s.pending
  entries : t.peers.entries = s.peers.entries
  refusedId : t.peers.refusedId = s.peers.refusedId
  refusals : t.peers.refusals = s.peers.refusals
  response : t.link.response = s.link.response
  silence : t.link.silence = s.link.silence
  sent : t.link.sent = s.link.sent
  queue : t.program.queue = s.program.queue
  lastCompleted : t.program.lastCompleted = s.program.lastCompleted
  nextToAssign : t.program.nextToAssign = s.program.nextToAssign
  setpoint : t.program.setpoint = s.program.setpoint
  derated : t.program.derated = s.program.derated
  load : t.servo.load = s.servo.load
  loadSeen : t.servo.loadSeen = s.servo.loadSeen
  stale : t.servo.stale = s.servo.stale
  peak : t.servo.peak = s.servo.peak
  displacement : t.servo.displacement = s.servo.displacement
  target : t.servo.target = s.servo.target
  error : t.servo.error = s.servo.error

theorem Keeps.refl (s : State) : Keeps s s := by constructor <;> rfl

theorem Keeps.trans {a b c : State} (h : Keeps a b) (k : Keeps b c) : Keeps a c := by
  constructor
  · exact k.time.trans h.time
  · exact k.settings.trans h.settings
  · exact k.strain.trans h.strain
  · exact k.crack.trans h.crack
  · exact k.ports.trans h.ports
  · exact k.timers.trans h.timers
  · exact k.draws.trans h.draws
  · exact k.pending.trans h.pending
  · exact k.entries.trans h.entries
  · exact k.refusedId.trans h.refusedId
  · exact k.refusals.trans h.refusals
  · exact k.response.trans h.response
  · exact k.silence.trans h.silence
  · exact k.sent.trans h.sent
  · exact k.queue.trans h.queue
  · exact k.lastCompleted.trans h.lastCompleted
  · exact k.nextToAssign.trans h.nextToAssign
  · exact k.setpoint.trans h.setpoint
  · exact k.derated.trans h.derated
  · exact k.load.trans h.load
  · exact k.loadSeen.trans h.loadSeen
  · exact k.stale.trans h.stale
  · exact k.peak.trans h.peak
  · exact k.displacement.trans h.displacement
  · exact k.target.trans h.target
  · exact k.error.trans h.error

/-! ## The pieces -/

theorem pushNotice_keeps (n : Notice) (s : State) : Keeps s (pushNotice n s) := by constructor <;> rfl

theorem setEntry_keeps (c : Cause) (e : CauseEntry) (s : State) : Keeps s (setEntry c e s) := by constructor <;> rfl

theorem placeHoldNotice_keeps (c : NoticeContent) (s : State) : Keeps s (placeHoldNotice c s) := by
  constructor <;> rfl

theorem placeUnloadNotice_keeps (c : NoticeContent) (s : State) : Keeps s (placeUnloadNotice c s) := by
  constructor <;> rfl

theorem emptyHoldSlot_keeps (s : State) : Keeps s (emptyHoldSlot s) := by constructor <;> rfl

theorem dropDemand_keeps (s : State) : Keeps s (dropDemand s) := by constructor <;> rfl

theorem writeHoldRecord_keeps (c : Cause) (s : State) : Keeps s (writeHoldRecord c s) := by constructor <;> rfl

theorem writeUnloadRecord_keeps (c : Cause) (s : State) : Keeps s (writeUnloadRecord c s) := by constructor <;> rfl

theorem setOutcome_keeps (o : UnloadOutcome) (s : State) : Keeps s (setOutcome o s) := by constructor <;> rfl

theorem appendLater_keeps (c : Cause) (s : State) : Keeps s (appendLater c s) := by constructor <;> rfl

theorem requireResume_keeps (s : State) : Keeps s (requireResume s) := by constructor <;> rfl

theorem askBreak_keeps (s : State) : Keeps s (askBreak s) := by
  unfold askBreak; split <;> constructor <;> rfl

/-- The paced and starved flags and the cycle's mark are all that a pause touches (R40, R43, R44). -/
theorem pauseProgram_fields (p : Program) :
    (pauseProgram p).queue = p.queue ∧ (pauseProgram p).lastCompleted = p.lastCompleted ∧
    (pauseProgram p).nextToAssign = p.nextToAssign ∧ (pauseProgram p).setpoint = p.setpoint ∧
    (pauseProgram p).derated = p.derated ∧ (pauseProgram p).flight.isSome = p.flight.isSome ∧
    (pauseProgram p).paced = false ∧ (pauseProgram p).starved = false := by
  unfold pauseProgram markInterrupted
  split <;> simp_all

theorem changePosture_keeps (p : Posture) (c : Option Cause) (o : Option UnloadOutcome) (s : State) :
    Keeps s (changePosture p c o s) := by
  have h := pauseProgram_fields s.program
  unfold changePosture
  split
  · constructor <;> first | rfl | exact h.1 | exact h.2.1 | exact h.2.2.1 | exact h.2.2.2.1 | exact h.2.2.2.2.1
  · constructor <;> rfl

theorem takeIntoFlight_keeps (s : State) : Keeps s (takeIntoFlight s) := by
  unfold takeIntoFlight
  split
  · split
    · constructor <;> rfl
    · exact Keeps.refl s
  · exact Keeps.refl s

theorem starvedTest_keeps (s : State) : Keeps s (starvedTest s) := by
  unfold starvedTest
  split
  · constructor <;> rfl
  · exact Keeps.refl s

/-! ## Posture changes (R2) -/

theorem enterRun_keeps (c : Option Cause) (s : State) : Keeps s (enterRun c s) :=
  (((changePosture_keeps _ _ _ s).trans (dropDemand_keeps _)).trans (takeIntoFlight_keeps _)).trans
    (starvedTest_keeps _)

theorem enterHold_keeps (c : Cause) (s : State) : Keeps s (enterHold c s) :=
  (writeHoldRecord_keeps c s).trans (changePosture_keeps _ _ _ _)

theorem beginUnload_keeps (s : State) : Keeps s (beginUnload s) := by constructor <;> rfl

theorem restLoop_keeps (s : State) : Keeps s (restLoop s) := by constructor <;> rfl

theorem enterUnload_keeps (c : Cause) (s : State) : Keeps s (enterUnload c s) :=
  (((((writeUnloadRecord_keeps c s).trans (changePosture_keeps .unload (some c) none _)).trans
    (beginUnload_keeps _)).trans (emptyHoldSlot_keeps _)).trans (dropDemand_keeps _)).trans
    (placeUnloadNotice_keeps _ _)

theorem lowerLoopConditions_keeps (s : State) : Keeps s (lowerLoopConditions s) :=
  (setEntry_keeps _ _ _).trans (setEntry_keeps _ _ _)

theorem enterSafe_keeps (c : Option Cause) (o : Option UnloadOutcome) (s : State) : Keeps s (enterSafe c o s) :=
  ((((changePosture_keeps .safe c o s).trans (restLoop_keeps _)).trans (lowerLoopConditions_keeps _)).trans
    (emptyHoldSlot_keeps _)).trans (dropDemand_keeps _)

theorem endUnload_keeps (c : Option Cause) (o : UnloadOutcome) (s : State) : Keeps s (endUnload c o s) :=
  (setOutcome_keeps o s).trans (enterSafe_keeps _ _ _)

theorem reviseHoldDemand_keeps (c : Cause) (s : State) : Keeps s (reviseHoldDemand c s) := by
  unfold reviseHoldDemand
  split
  · split
    · exact Keeps.trans (by constructor <;> rfl) (placeHoldNotice_keeps _ _)
    · exact Keeps.refl s
  · split
    · exact Keeps.refl s
    · split
      · exact (dropDemand_keeps s).trans (placeHoldNotice_keeps _ _)
      · exact dropDemand_keeps s

theorem postureOnLatch_keeps (c : Cause) (cls : Machine.Class) (s : State) : Keeps s (postureOnLatch c cls s) := by
  have safe : Keeps s (enterSafe (some c) none (setOutcome .incomplete (writeUnloadRecord c s))) :=
    ((writeUnloadRecord_keeps c s).trans (setOutcome_keeps _ _)).trans (enterSafe_keeps _ _ _)
  have ended : Keeps s (endUnload (some c) .incomplete (appendLater c s)) :=
    (appendLater_keeps c s).trans (endUnload_keeps _ _ _)
  unfold postureOnLatch
  split
  · exact Keeps.refl s
  · split
    · exact enterHold_keeps c s
    · split
      · exact Keeps.refl s
      · exact requireResume_keeps s
    all_goals exact Keeps.refl s
  · split
    · exact enterUnload_keeps c s
    · exact enterUnload_keeps c s
    · split
      · exact ended
      · exact appendLater_keeps c s
    all_goals exact Keeps.refl s
  · split
    · exact safe
    · exact safe
    · exact ended
    all_goals exact Keeps.refl s

/-! ## Latches, clears and reports (R5 to R13) -/

theorem latch_keeps (c : Cause) (s : State) : Keeps s (latch c s) := by
  have marked : Keeps s (pushNotice (.causeLatched c (classOf s.settings c))
      (setEntry c { s.entry c with latched := true, ackPending := false, snapshot := some (snapshotOf s) } s)) :=
    (setEntry_keeps _ _ _).trans (pushNotice_keeps _ _)
  have moved : Keeps s (postureOnLatch c (classOf s.settings c)
      (if hallStopOf s.settings c then
        askBreak (pushNotice (.causeLatched c (classOf s.settings c))
          (setEntry c { s.entry c with latched := true, ackPending := false, snapshot := some (snapshotOf s) } s))
      else pushNotice (.causeLatched c (classOf s.settings c))
          (setEntry c { s.entry c with latched := true, ackPending := false, snapshot := some (snapshotOf s) } s))) := by
    split
    · exact (marked.trans (askBreak_keeps _)).trans (postureOnLatch_keeps _ _ _)
    · exact marked.trans (postureOnLatch_keeps _ _ _)
  unfold latch
  simp only []
  split
  · exact moved.trans (reviseHoldDemand_keeps _ _)
  · exact moved

theorem holdExit_keeps (c : Option Cause) (s : State) : Keeps s (holdExit c s) := by
  unfold holdExit
  split
  · exact enterRun_keeps _ _
  · exact Keeps.refl s

theorem clearLatch_keeps (c : Cause) (s : State) : Keeps s (clearLatch c s) := by
  have h := (setEntry_keeps c { s.entry c with latched := false, ackPending := false } s).trans
    (pushNotice_keeps (.causeCleared c) _)
  unfold clearLatch
  simp only []
  split
  · exact h.trans (reviseHoldDemand_keeps _ _)
  · exact h

theorem clearEntry_keeps (exit : Bool) (k : Option Cause) (c : Cause) (s : State) :
    Keeps s (clearEntry exit k c s) := by
  unfold clearEntry
  split
  · exact (clearLatch_keeps c s).trans (holdExit_keeps _ _)
  · exact clearLatch_keeps c s

theorem onRise_keeps (c : Cause) (s : State) : Keeps s (onRise c s) := by
  unfold onRise
  split
  · split
    · exact (appendLater_keeps c s).trans (endUnload_keeps _ _ _)
    · exact Keeps.refl s
  · exact latch_keeps c s

theorem onFall_keeps (exit : Bool) (c : Cause) (s : State) : Keeps s (onFall exit c s) := by
  unfold onFall
  split
  · exact Keeps.refl s
  · split
    · exact clearEntry_keeps _ _ _ _
    · exact Keeps.refl s
  · split
    · exact clearEntry_keeps _ _ _ _
    · exact Keeps.refl s

/-- A condition report leaves the raising blocks as they were (R2, R5). -/
theorem reportWith_keeps (exit : Bool) (c : Cause) (v : Bool) (s : State) : Keeps s (reportWith exit c v s) := by
  unfold reportWith
  split
  · exact Keeps.refl s
  · simp only []
    split
    · exact (setEntry_keeps _ _ _).trans (onRise_keeps _ _)
    · exact (setEntry_keeps _ _ _).trans (onFall_keeps _ _ _)

theorem report_keeps (c : Cause) (v : Bool) (s : State) : Keeps s (report c v s) := reportWith_keeps true c v s

theorem pulse_keeps (c : Cause) (s : State) : Keeps s (pulse c s) :=
  (report_keeps c true s).trans (report_keeps c false _)

theorem ackEntry_keeps (exit : Bool) (c : Cause) (s : State) : Keeps s (ackEntry exit c s) := by
  unfold ackEntry
  split
  · split
    · exact clearEntry_keeps _ _ _ _
    · split
      · exact setEntry_keeps _ _ _
      · exact clearEntry_keeps _ _ _ _
    · exact Keeps.refl s
  · exact Keeps.refl s

/-- A report of the value already held has no effect (R5). -/
theorem report_held (c : Cause) (s : State) : report c (s.entry c).condition s = s := by
  simp [report, reportWith]

theorem report_of_held {c : Cause} {v : Bool} {s : State} (h : (s.entry c).condition = v) : report c v s = s := by
  subst h; exact report_held c s

end Sys2Proof.Laws
end

