-- ==== Sys2Proof/Laws/Entries.lean ====
section
/-! SUPPORT. What the posture controller's work does to the cause table: the reported entry, and at an entry into SAFE the
conditions of FOLLOWING and VALVE_SAT (R5 to R11, R65). -/

namespace Sys2Proof.Laws

open Sys2Proof Sys2Proof.Machine

/-! ## Work that touches no entry -/

@[simp] theorem askBreak_causes (s : State) : (askBreak s).causes = s.causes := by unfold askBreak; split <;> rfl

@[simp] theorem changePosture_causes (p : Posture) (c : Option Cause) (o : Option UnloadOutcome) (s : State) :
    (changePosture p c o s).causes = s.causes := rfl

@[simp] theorem changePosture_posture (p : Posture) (c : Option Cause) (o : Option UnloadOutcome) (s : State) :
    (changePosture p c o s).posture = p := rfl

@[simp] theorem takeIntoFlight_causes (s : State) : (takeIntoFlight s).causes = s.causes := by
  unfold takeIntoFlight
  split
  · split <;> rfl
  · rfl

@[simp] theorem takeIntoFlight_posture (s : State) : (takeIntoFlight s).posture = s.posture := by
  unfold takeIntoFlight
  split
  · split <;> rfl
  · rfl

@[simp] theorem starvedTest_causes (s : State) : (starvedTest s).causes = s.causes := by
  unfold starvedTest; split <;> rfl

@[simp] theorem starvedTest_posture (s : State) : (starvedTest s).posture = s.posture := by
  unfold starvedTest; split <;> rfl

@[simp] theorem enterRun_causes (c : Option Cause) (s : State) : (enterRun c s).causes = s.causes := by
  simp [enterRun]

@[simp] theorem enterRun_posture (c : Option Cause) (s : State) : (enterRun c s).posture = .run := by
  simp [enterRun]

@[simp] theorem enterHold_causes (c : Cause) (s : State) : (enterHold c s).causes = s.causes := rfl

@[simp] theorem enterHold_posture (c : Cause) (s : State) : (enterHold c s).posture = .hold := rfl

@[simp] theorem enterUnload_causes (c : Cause) (s : State) : (enterUnload c s).causes = s.causes := rfl

@[simp] theorem enterUnload_posture (c : Cause) (s : State) : (enterUnload c s).posture = .unload := rfl

@[simp] theorem reviseHoldDemand_causes (c : Cause) (s : State) : (reviseHoldDemand c s).causes = s.causes := by
  unfold reviseHoldDemand
  split
  · split <;> rfl
  · split
    · rfl
    · split <;> rfl

@[simp] theorem reviseHoldDemand_posture (c : Cause) (s : State) : (reviseHoldDemand c s).posture = s.posture := by
  unfold reviseHoldDemand
  split
  · split <;> rfl
  · split
    · rfl
    · split <;> rfl

@[simp] theorem holdExit_causes (c : Option Cause) (s : State) : (holdExit c s).causes = s.causes := by
  unfold holdExit; split
  · exact enterRun_causes c s
  · rfl

/-- HOLD exit (R15). -/
theorem holdExit_posture (c : Option Cause) (s : State) :
    (holdExit c s).posture =
      if s.posture = .hold ∧ s.holdLatched = false ∧ s.resumeRequired = false then .run else s.posture := by
  unfold holdExit; split
  · exact enterRun_posture c s
  · rfl

/-! ## Entries at the posture changes of a latch (R13) -/

@[simp] theorem enterSafe_posture (c : Option Cause) (o : Option UnloadOutcome) (s : State) :
    (enterSafe c o s).posture = .safe := rfl

@[simp] theorem endUnload_posture (c : Option Cause) (o : UnloadOutcome) (s : State) :
    (endUnload c o s).posture = .safe := rfl

theorem lowerLoopConditions_entry (s : State) (d : Cause) :
    (lowerLoopConditions s).entry d =
      if d = .following ∨ d = .valveSat then { s.entry d with condition := false } else s.entry d := by
  unfold lowerLoopConditions
  simp only [entry_setEntry]
  by_cases hv : d = .valveSat
  · subst hv; simp
  · by_cases hf : d = .following
    · subst hf; simp
    · simp [hv, hf, Ne.symm hv, Ne.symm hf]

/-- An entry into SAFE lowers the conditions of FOLLOWING and VALVE_SAT and touches nothing else of the table (R65). -/
theorem enterSafe_entry (c : Option Cause) (o : Option UnloadOutcome) (s : State) (d : Cause) :
    (enterSafe c o s).entry d =
      if d = .following ∨ d = .valveSat then { s.entry d with condition := false } else s.entry d :=
  lowerLoopConditions_entry (restLoop (changePosture .safe c o s)) d

theorem endUnload_entry (c : Option Cause) (o : UnloadOutcome) (s : State) (d : Cause) :
    (endUnload c o s).entry d =
      if d = .following ∨ d = .valveSat then { s.entry d with condition := false } else s.entry d :=
  enterSafe_entry c (some o) (setOutcome o s) d

/-- A latch's posture change clears, latches and acknowledges nothing (R13). -/
theorem postureOnLatch_entry (c : Cause) (cls : Machine.Class) (s : State) (d : Cause) :
    (postureOnLatch c cls s).entry d = s.entry d ∨
      (postureOnLatch c cls s).entry d = { s.entry d with condition := false } ∧ (d = .following ∨ d = .valveSat) := by
  have safe : ∀ t, (∀ e, t.entry e = s.entry e) → ∀ k o, (enterSafe k o t).entry d = s.entry d ∨
      (enterSafe k o t).entry d = { s.entry d with condition := false } ∧ (d = .following ∨ d = .valveSat) := by
    intro t ht k o
    rw [enterSafe_entry, ht]
    by_cases h : d = .following ∨ d = .valveSat
    · exact .inr ⟨by simp [h], h⟩
    · exact .inl (by simp [h])
  unfold postureOnLatch
  split
  · exact .inl rfl
  · split
    · exact .inl rfl
    · split <;> exact .inl rfl
    all_goals exact .inl rfl
  · split
    · exact .inl rfl
    · exact .inl rfl
    · split
      · exact safe (setOutcome .incomplete (appendLater c s)) (fun _ => rfl) _ _
      · exact .inl rfl
    all_goals exact .inl rfl
  · split
    · exact safe (setOutcome .incomplete (writeUnloadRecord c s)) (fun _ => rfl) _ _
    · exact safe (setOutcome .incomplete (writeUnloadRecord c s)) (fun _ => rfl) _ _
    · exact safe (setOutcome .incomplete (appendLater c s)) (fun _ => rfl) _ _
    all_goals exact .inl rfl

/-- The posture a latch of class cls leaves (R13, R17). -/
theorem postureOnLatch_posture (c : Cause) (cls : Machine.Class) (s : State) :
    (postureOnLatch c cls s).posture =
      match cls, s.posture with
      | .hold, .run => .hold
      | .unload, .run => .unload
      | .unload, .hold => .unload
      | .unload, .unload => if c = .following then .safe else .unload
      | .safe, .run => .safe
      | .safe, .hold => .safe
      | .safe, .unload => .safe
      | _, p => p := by
  unfold postureOnLatch
  cases cls <;> cases hp : s.posture <;> simp [hp]
  · split
    · exact hp
    · exact hp
  · split
    · rfl
    · exact hp

/-! ## Latches -/

/-- The entry that latches (R10, R11); its condition falls again where the latch brings SAFE and it is FOLLOWING or
VALVE_SAT (R65). -/
theorem latch_latched (c : Cause) (s : State) : ((latch c s).entry c).latched = true := by
  have key : ∀ t : State, (t.entry c).latched = true →
      ((if classOf s.settings c = .hold then reviseHoldDemand c (postureOnLatch c (classOf s.settings c) t)
        else postureOnLatch c (classOf s.settings c) t).entry c).latched = true := by
    intro t ht
    have h : ((postureOnLatch c (classOf s.settings c) t).entry c).latched = true := by
      obtain h | ⟨h, -⟩ := postureOnLatch_entry c (classOf s.settings c) t c <;> rw [h] <;> exact ht
    split
    · have : (reviseHoldDemand c (postureOnLatch c (classOf s.settings c) t)).entry c =
          (postureOnLatch c (classOf s.settings c) t).entry c := by unfold State.entry; rw [reviseHoldDemand_causes]
      rw [this]; exact h
    · exact h
  unfold latch
  simp only []
  refine key _ ?_
  split
  · unfold State.entry; rw [askBreak_causes]; simp [setEntry]
  · simp [State.entry, setEntry]

/-- No other entry latches, clears or is acknowledged at a latch. -/
theorem latch_entry_other {c d : Cause} (hd : d ≠ c) (hf : d ≠ .following) (hv : d ≠ .valveSat) (s : State) :
    (latch c s).entry d = s.entry d := by
  have key : ∀ t : State, t.entry d = s.entry d →
      (if classOf s.settings c = .hold then reviseHoldDemand c (postureOnLatch c (classOf s.settings c) t)
        else postureOnLatch c (classOf s.settings c) t).entry d = s.entry d := by
    intro t ht
    have h : (postureOnLatch c (classOf s.settings c) t).entry d = s.entry d := by
      obtain h | ⟨-, h⟩ := postureOnLatch_entry c (classOf s.settings c) t d
      · rw [h, ht]
      · exact absurd h (by simp [hf, hv])
    split
    · have : (reviseHoldDemand c (postureOnLatch c (classOf s.settings c) t)).entry d =
          (postureOnLatch c (classOf s.settings c) t).entry d := by unfold State.entry; rw [reviseHoldDemand_causes]
      rw [this]; exact h
    · exact h
  unfold latch
  simp only []
  refine key _ ?_
  have h1 : ∀ e, (pushNotice (.causeLatched c (classOf s.settings c)) (setEntry c e s)).entry d = s.entry d := by
    intro e
    rw [pushNotice_entry]
    exact entry_setEntry_other (fun h => hd h.symm) _ _
  split
  · unfold State.entry; rw [askBreak_causes]; exact h1 _
  · exact h1 _

/-! ## Clears -/

theorem clearLatch_entry (c d : Cause) (s : State) :
    (clearLatch c s).entry d =
      if d = c then { s.entry c with latched := false, ackPending := false } else s.entry d := by
  have h : (clearLatch c s).causes = (setEntry c { s.entry c with latched := false, ackPending := false } s).causes := by
    unfold clearLatch
    simp only []
    split
    · rw [reviseHoldDemand_causes]; rfl
    · rfl
  have h' : (clearLatch c s).entry d =
      (setEntry c { s.entry c with latched := false, ackPending := false } s).entry d := by
    unfold State.entry; rw [h]; rfl
  rw [h', entry_setEntry]
  by_cases e : c = d
  · subst e; simp
  · simp [e, Ne.symm e]

theorem clearEntry_entry (exit : Bool) (k : Option Cause) (c d : Cause) (s : State) :
    (clearEntry exit k c s).entry d =
      if d = c then { s.entry c with latched := false, ackPending := false } else s.entry d := by
  unfold clearEntry
  split
  · have : (holdExit k (clearLatch c s)).entry d = (clearLatch c s).entry d := by
      unfold State.entry; rw [holdExit_causes]
    rw [this, clearLatch_entry]
  · exact clearLatch_entry c d s

/-! ## Reports and acknowledgements -/

/-- A report touches no entry but its own, and the conditions of FOLLOWING and VALVE_SAT at an entry into SAFE (R5,
R65). -/
theorem reportWith_entry_other {c d : Cause} (hd : d ≠ c) (hf : d ≠ .following) (hv : d ≠ .valveSat) (exit v : Bool)
    (s : State) : (reportWith exit c v s).entry d = s.entry d := by
  have h0 : ∀ e, (setEntry c e s).entry d = s.entry d := fun e => entry_setEntry_other (fun h => hd h.symm) e s
  unfold reportWith
  split
  · rfl
  · simp only []
    split
    · unfold onRise
      split
      · split
        · rw [endUnload_entry]; simp only [hf, hv, or_self, if_false]; exact h0 _
        · exact h0 _
      · rw [latch_entry_other hd hf hv]; exact h0 _
    · unfold onFall
      split
      · exact h0 _
      · split
        · rw [clearEntry_entry]; simp only [hd, if_false]; exact h0 _
        · exact h0 _
      · split
        · rw [clearEntry_entry]; simp only [hd, if_false]; exact h0 _
        · exact h0 _

/-- An acknowledgement touches no entry but its own (R9). -/
theorem ackEntry_entry_other {c d : Cause} (hd : d ≠ c) (exit : Bool) (s : State) :
    (ackEntry exit c s).entry d = s.entry d := by
  unfold ackEntry
  split
  · split
    · rw [clearEntry_entry]; simp [hd]
    · split
      · exact entry_setEntry_other (fun h => hd h.symm) _ _
      · rw [clearEntry_entry]; simp [hd]
    · rfl
  · rfl

/-- A rise reported on an entry that is clear latches it (R6, R7, R8). -/
theorem report_rise_latches {c : Cause} {s : State} (exit : Bool) (h : (s.entry c).condition = false)
    (hl : (s.entry c).latched = false) : ((reportWith exit c true s).entry c).latched = true := by
  simp [reportWith, h, onRise, hl, latch_latched]

end Sys2Proof.Laws
end

