-- ==== Sys2Proof/Laws/Line.lean ====
section
/-! SUPPORT. The hall line bit by bit: what an event's word, the driver's release and seizure, the inputs
of a bit time and the tick change on the line, the majority of a bit's samples, and the events that fall due, each queued
once. -/

namespace Sys2Proof.Laws

open Sys2Proof Sys2Proof.Machine

/-! ## Fields that a line event's word on the other drivers leaves alone -/

section
variable (space carrier : Bool) (l : Line)

@[simp] theorem told_tx : (l.told space carrier).tx = l.tx := by unfold Line.told; split <;> rfl
@[simp] theorem told_rx : (l.told space carrier).rx = l.rx := by unfold Line.told; split <;> rfl
@[simp] theorem told_idleCount : (l.told space carrier).idleCount = l.idleCount := by unfold Line.told; split <;> rfl
@[simp] theorem told_spaceCount : (l.told space carrier).spaceCount = l.spaceCount := by unfold Line.told; split <;> rfl
@[simp] theorem told_wait : (l.told space carrier).wait = l.wait := by unfold Line.told; split <;> rfl
@[simp] theorem told_generator : (l.told space carrier).generator = l.generator := by unfold Line.told; split <;> rfl
@[simp] theorem told_unloadSlot : (l.told space carrier).unloadSlot = l.unloadSlot := by unfold Line.told; split <;> rfl
@[simp] theorem told_holdSlot : (l.told space carrier).holdSlot = l.holdSlot := by unfold Line.told; split <;> rfl
@[simp] theorem told_reportSlot : (l.told space carrier).reportSlot = l.reportSlot := by unfold Line.told; split <;> rfl
@[simp] theorem told_tapped : (l.told space carrier).tapped = l.tapped := by unfold Line.told; split <;> rfl
@[simp] theorem told_heard : (l.told space carrier).heard = l.heard := by unfold Line.told; split <;> rfl
@[simp] theorem told_taking : (l.told space carrier).taking = l.taking := by unfold Line.told; split <;> rfl
@[simp] theorem told_space : (l.told space carrier).space = if l.tapped then l.space else space := by
  unfold Line.told; split <;> rfl
@[simp] theorem told_carrier : (l.told space carrier).carrier = if l.tapped then l.carrier else carrier := by
  unfold Line.told; split <;> rfl

end

/-! ## The own driver released and seized (R76, R88) -/

section
variable (l : Line)

@[simp] theorem releaseDriver_tx : (releaseDriver l).tx = l.tx := rfl
@[simp] theorem releaseDriver_wait : (releaseDriver l).wait = l.wait := rfl
@[simp] theorem releaseDriver_generator : (releaseDriver l).generator = l.generator := rfl
@[simp] theorem releaseDriver_unloadSlot : (releaseDriver l).unloadSlot = l.unloadSlot := rfl
@[simp] theorem releaseDriver_holdSlot : (releaseDriver l).holdSlot = l.holdSlot := rfl
@[simp] theorem releaseDriver_reportSlot : (releaseDriver l).reportSlot = l.reportSlot := rfl
@[simp] theorem releaseDriver_holdTime : (releaseDriver l).holdTime = l.holdTime := rfl
@[simp] theorem releaseDriver_demandCause : (releaseDriver l).demandCause = l.demandCause := rfl
@[simp] theorem releaseDriver_space : (releaseDriver l).space = l.space := rfl
@[simp] theorem releaseDriver_carrier : (releaseDriver l).carrier = l.carrier := rfl
@[simp] theorem releaseDriver_heard : (releaseDriver l).heard = l.heard := rfl
@[simp] theorem releaseDriver_tapped : (releaseDriver l).tapped = l.tapped := rfl
@[simp] theorem releaseDriver_noise : (releaseDriver l).noise = l.noise := rfl
@[simp] theorem releaseDriver_framing : (releaseDriver l).framing = l.framing := rfl
@[simp] theorem releaseDriver_dropped : (releaseDriver l).dropped = l.dropped := rfl
@[simp] theorem releaseDriver_lateCollision : (releaseDriver l).lateCollision = l.lateCollision := rfl
@[simp] theorem releaseDriver_breakHeard : (releaseDriver l).breakHeard = l.breakHeard := rfl
@[simp] theorem releaseDriver_rx : (releaseDriver l).rx = .waiting := rfl
@[simp] theorem releaseDriver_taking : (releaseDriver l).taking = none := rfl
@[simp] theorem releaseDriver_idleCount : (releaseDriver l).idleCount = 0 := rfl
@[simp] theorem releaseDriver_spaceCount : (releaseDriver l).spaceCount = 0 := rfl
@[simp] theorem seizeDriver_tx : (seizeDriver l).tx = l.tx := rfl
@[simp] theorem seizeDriver_wait : (seizeDriver l).wait = l.wait := rfl
@[simp] theorem seizeDriver_generator : (seizeDriver l).generator = l.generator := rfl
@[simp] theorem seizeDriver_unloadSlot : (seizeDriver l).unloadSlot = l.unloadSlot := rfl
@[simp] theorem seizeDriver_holdSlot : (seizeDriver l).holdSlot = l.holdSlot := rfl
@[simp] theorem seizeDriver_reportSlot : (seizeDriver l).reportSlot = l.reportSlot := rfl
@[simp] theorem seizeDriver_holdTime : (seizeDriver l).holdTime = l.holdTime := rfl
@[simp] theorem seizeDriver_demandCause : (seizeDriver l).demandCause = l.demandCause := rfl
@[simp] theorem seizeDriver_space : (seizeDriver l).space = l.space := rfl
@[simp] theorem seizeDriver_carrier : (seizeDriver l).carrier = l.carrier := rfl
@[simp] theorem seizeDriver_heard : (seizeDriver l).heard = l.heard := rfl
@[simp] theorem seizeDriver_tapped : (seizeDriver l).tapped = l.tapped := rfl
@[simp] theorem seizeDriver_noise : (seizeDriver l).noise = l.noise := rfl
@[simp] theorem seizeDriver_framing : (seizeDriver l).framing = l.framing := rfl
@[simp] theorem seizeDriver_dropped : (seizeDriver l).dropped = l.dropped := rfl
@[simp] theorem seizeDriver_lateCollision : (seizeDriver l).lateCollision = l.lateCollision := rfl
@[simp] theorem seizeDriver_breakHeard : (seizeDriver l).breakHeard = l.breakHeard := rfl
@[simp] theorem seizeDriver_rx : (seizeDriver l).rx = .waiting := rfl
@[simp] theorem seizeDriver_taking : (seizeDriver l).taking = none := rfl
@[simp] theorem seizeDriver_idleCount : (seizeDriver l).idleCount = 0 := rfl
@[simp] theorem seizeDriver_spaceCount : (seizeDriver l).spaceCount = 0 := rfl

@[simp] theorem seizeDriver_framingPending : (seizeDriver l).framingPending = false := rfl
@[simp] theorem releaseDriver_framingPending : (releaseDriver l).framingPending = l.framingPending := rfl

/-- Only the transmitter changes where it is brought to rest (R79). -/
theorem settleTx_eq (id : Nat) : settleTx id l = { l with tx := (settleTx id l).tx } := by
  unfold settleTx; split <;> rfl

end

/-! ## The inputs of one bit time -/

/-- With no input the line keeps everything but the mark that none was read. -/
theorem hear_nothing {l : Line} (h : l.heard = []) : l.hear = { l with tapped := false } := by
  unfold Line.hear; split
  · rfl
  · rename_i hb; rw [h] at hb; cases hb

/-- What reading a bit does, all of it. -/
theorem hear_bit {l : Line} {b : LineBit} {rest : List LineBit} (h : l.heard = b :: rest) :
    l.hear = { l with
      heard := rest, tapped := true, space := b.space, carrier := b.carrier
      noise := l.noise || (b.noisy && !l.driving), taking := (l.receive b).1 } := by
  unfold Line.hear; split
  · rename_i hb; rw [h] at hb; cases hb
  · rename_i c cs hb; rw [h] at hb; cases hb; rfl

/-- A bit's level is the majority of its three samples (R71). -/
theorem bit_space_iff (b : LineBit) :
    b.space = true ↔
      (b.first = true ∧ b.second = true) ∨ (b.first = true ∧ b.third = true) ∨ (b.second = true ∧ b.third = true) := by
  simp [LineBit.space, or_assoc]

/-- A bit is noisy where its samples do not all agree (R71). -/
theorem bit_noisy_iff (b : LineBit) : b.noisy = true ↔ ¬(b.first = b.second ∧ b.second = b.third) := by
  cases b with
  | mk c f x y z => cases x <;> cases y <;> cases z <;> simp [LineBit.noisy]

/-- A driving station receives nothing (R76). -/
theorem receive_driving {l : Line} (h : l.driving = true) (b : LineBit) : l.receive b = (none, none) := by
  simp [Line.receive, h]

/-- A receiver that waits for idle bit times receives nothing (R74). -/
theorem receive_waiting {l : Line} (h : l.rx = .waiting) (b : LineBit) : l.receive b = (none, none) := by
  unfold Line.receive; simp only [h]; split <;> rfl

/-- A listening receiver with no frame in reception seeks a start bit (R71). -/
theorem receive_seeking {l : Line} (hd : l.driving = false) (hr : l.rx = .hunting) (ht : l.taking = none)
    (b : LineBit) : l.receive b = seekStart l.space b := by
  simp [Line.receive, hd, hr, ht]

/-- A listening receiver with a frame in reception takes the bit (R74). -/
theorem receive_taking {l : Line} {r : Reception} (hd : l.driving = false) (hr : l.rx = .hunting)
    (ht : l.taking = some r) (b : LineBit) : l.receive b = takeBit r b.space := by
  simp [Line.receive, hd, hr, ht]

/-! ## The line one bit time on -/

section
variable (l : Line)

theorem tick_tx : l.tick.tx = l.tx.tick := by simp only [Line.tick]
theorem tick_wait : l.tick.wait = l.wait - 1 := by simp only [Line.tick]
theorem tick_idleCount :
    l.tick.idleCount = if l.driving || l.hear.carrier then 0 else saturate 65535 (l.idleCount + 1) := by
  simp only [Line.tick]
theorem tick_spaceCount :
    l.tick.spaceCount = if l.driving then 0 else if l.hear.space then l.spaceCount + 1 else 0 := by
  simp only [Line.tick]
@[simp] theorem tick_rx : l.tick.rx = l.rx := by simp only [Line.tick, Line.hear]; split <;> rfl
@[simp] theorem tick_unloadSlot : l.tick.unloadSlot = l.unloadSlot := by simp only [Line.tick, Line.hear]; split <;> rfl
@[simp] theorem tick_holdSlot : l.tick.holdSlot = l.holdSlot := by simp only [Line.tick, Line.hear]; split <;> rfl
@[simp] theorem tick_reportSlot : l.tick.reportSlot = l.reportSlot := by simp only [Line.tick, Line.hear]; split <;> rfl
@[simp] theorem tick_generator : l.tick.generator = l.generator := by simp only [Line.tick, Line.hear]; split <;> rfl
@[simp] theorem tick_holdTime : l.tick.holdTime = l.holdTime := by simp only [Line.tick, Line.hear]; split <;> rfl
@[simp] theorem tick_demandCause : l.tick.demandCause = l.demandCause := by
  simp only [Line.tick, Line.hear]; split <;> rfl
@[simp] theorem tick_framingPending : l.tick.framingPending = l.framingPending := by
  simp only [Line.tick, Line.hear]; split <;> rfl
@[simp] theorem tick_driving : l.tick.driving = l.driving := by
  simp only [Line.driving, tick_tx]; cases l.tx <;> rfl

end

/-! ## The events that fall due -/

/-- Placing an event by rank adds it once. -/
theorem insertDue_perm (e : Nat × Instr) (es : List (Nat × Instr)) : (insertDue e es).Perm (e :: es) := by
  induction es with
  | nil => exact List.Perm.refl _
  | cons x xs ih =>
    unfold insertDue; split
    · exact List.Perm.refl _
    · exact (ih.cons x).trans (List.Perm.swap e x xs)

theorem foldr_insertDue_perm (es : List (Nat × Instr)) : (es.foldr insertDue []).Perm es := by
  induction es with
  | nil => exact List.Perm.refl _
  | cons x xs ih => exact (insertDue_perm x _).trans (ih.cons x)

/-- The free order of the events that fall due together only permutes them. -/
theorem freeOrder_perm (draw : Nat) (es : List Instr) : (freeOrder draw es).Perm es := by
  have h := (foldr_insertDue_perm (es.mapIdx fun k e => (Config.dueRank draw k, e))).map Prod.snd
  have m : (es.mapIdx fun k e => (Config.dueRank draw k, e)).map Prod.snd = es := by
    apply List.ext_getElem <;> simp
  rw [m] at h; exact h

@[simp] theorem mem_freeOrder {c : Instr} {draw : Nat} {es : List Instr} : c ∈ freeOrder draw es ↔ c ∈ es :=
  (freeOrder_perm draw es).mem_iff

theorem nodup_freeOrder {draw : Nat} {es : List Instr} : (freeOrder draw es).Nodup ↔ es.Nodup :=
  (freeOrder_perm draw es).nodup_iff

/-- An attempt may start at once exactly from DEFER, with a slot pending and an idle count of 20 or more (R79). -/
theorem attemptDue_iff (l : Line) :
    l.attemptDue = true ↔ l.tx = .defer ∧ l.anyPending = true ∧ 20 ≤ l.idleCount := by
  unfold Line.attemptDue
  rw [Bool.and_eq_true, Bool.and_eq_true, decide_eq_true_iff, decide_eq_true_iff, and_assoc]; rfl

/-- A tick that starts an attempt changes nothing but the queue (R79). -/
theorem tick_attempt {s : State} (h : s.line.attemptDue = true) : tick s = { s with pending := [.attemptStart] } := by
  simp [tick, h]

/-- With no act of the host to come, any other tick lets one bit time pass and queues what falls due. -/
theorem tick_advance {s : State} (h : s.line.attemptDue = false) (he : s.link.edges = []) : tick s = passBitTime s := by
  simp [tick, h, he]

/-- A pause of the host lets one bit time pass too. -/
theorem tick_pause {s : State} {rest : List HostEdge} (h : s.line.attemptDue = false)
    (he : s.link.edges = .pause :: rest) : tick s = passBitTime (nextEdge rest s) := by
  simp [tick, h, he]

/-- Any other act of the host is taken, and no time passes. -/
theorem tick_edge {s : State} {e : HostEdge} {rest : List HostEdge} (h : s.line.attemptDue = false)
    (he : s.link.edges = e :: rest) (hp : e ≠ .pause) : tick s = takeEdge e (nextEdge rest s) := by
  cases e <;> simp [tick, h, he] at hp ⊢

/-! ## The station link bit by bit (R185) -/

/-- A whole byte in front is the first of the whole bytes. -/
theorem wholeBytes_byte (b7 b6 b5 b4 b3 b2 b1 b0 : Bool) (rest : List Bool) :
    wholeBytes (b7 :: b6 :: b5 :: b4 :: b3 :: b2 :: b1 :: b0 :: rest) =
      byteOfBits [b7, b6, b5, b4, b3, b2, b1, b0] :: wholeBytes rest := rfl

/-- Fewer than 8 bits hold no whole byte. -/
theorem wholeBytes_partial {bits : List Bool} (h : bits.length < 8) : wholeBytes bits = [] := by
  match bits with
  | [] | [_] | [_, _] | [_, _, _] | [_, _, _, _] | [_, _, _, _, _] | [_, _, _, _, _, _] | [_, _, _, _, _, _, _] => rfl
  | _ :: _ :: _ :: _ :: _ :: _ :: _ :: _ :: _ => simp at h; omega

@[simp] theorem nextEdge_edges (rest : List HostEdge) (s : State) : (nextEdge rest s).link.edges = rest := rfl
@[simp] theorem nextEdge_select (rest : List HostEdge) (s : State) : (nextEdge rest s).link.select = s.link.select := rfl
@[simp] theorem nextEdge_bits (rest : List HostEdge) (s : State) : (nextEdge rest s).link.bits = s.link.bits := rfl
@[simp] theorem nextEdge_response (rest : List HostEdge) (s : State) :
    (nextEdge rest s).link.response = s.link.response := rfl
@[simp] theorem nextEdge_notices (rest : List HostEdge) (s : State) :
    (nextEdge rest s).link.notices = s.link.notices := rfl
@[simp] theorem nextEdge_silence (rest : List HostEdge) (s : State) :
    (nextEdge rest s).link.silence = s.link.silence := rfl
@[simp] theorem nextEdge_line (rest : List HostEdge) (s : State) : (nextEdge rest s).line = s.line := rfl
@[simp] theorem nextEdge_timers (rest : List HostEdge) (s : State) : (nextEdge rest s).timers = s.timers := rfl
@[simp] theorem nextEdge_ports (rest : List HostEdge) (s : State) : (nextEdge rest s).ports = s.ports := rfl

end Sys2Proof.Laws
end

