-- ==== Sys2Proof/Laws/Ops.lean ====
section
/-! SUPPORT. What each shared operation over bytes, the notice queue and the exchange can do, said once. -/

namespace Sys2Proof.Laws

open Sys2Proof Sys2Proof.Machine

/-! ## Multi-byte fields (R198) -/

/-- A 16-bit field read back from its two bytes. -/
@[simp] theorem join2_bytes (v : BitVec 16) : join2 (v.extractLsb' 8 8) (v.extractLsb' 0 8) = v := by
  simp only [join2]
  ext i h
  simp only [BitVec.getElem_append, BitVec.getElem_extractLsb']
  grind

/-- A 24-bit field read back from its three bytes. -/
@[simp] theorem join3_bytes (v : BitVec 24) :
    join3 (v.extractLsb' 16 8) (v.extractLsb' 8 8) (v.extractLsb' 0 8) = v := by
  simp only [join3]
  ext i h
  simp only [BitVec.getElem_append, BitVec.getElem_extractLsb']
  grind

/-- A 32-bit field read back from its four bytes. -/
@[simp] theorem join4_bytes (v : BitVec 32) :
    join4 (v.extractLsb' 24 8) (v.extractLsb' 16 8) (v.extractLsb' 8 8) (v.extractLsb' 0 8) = v := by
  simp only [join4]
  ext i h
  simp only [BitVec.getElem_append, BitVec.getElem_extractLsb']
  grind

@[simp] theorem bytes2_length (v : BitVec 16) : (bytes2 v).length = 2 := rfl
@[simp] theorem bytes3_length (v : BitVec 24) : (bytes3 v).length = 3 := rfl
@[simp] theorem bytes4_length (v : BitVec 32) : (bytes4 v).length = 4 := rfl

@[simp] theorem be_length (n : Nat) (v : Int) : (be n v).length = n := by simp [be]

@[simp] theorem ifPresent_length {α : Type} (size : Nat) (fields : α → List Byte) (a : Option α)
    (h : ∀ x, (fields x).length = size) : (ifPresent size fields a).length = size + 1 := by
  cases a <;> simp [ifPresent, h] <;> omega

/-- A run of bytes and its CRC, taken apart again (R72, R200). -/
theorem sealed_split (bs : List Byte) :
    (sealed bs).take ((sealed bs).length - 2) = bs ∧
    (sealed bs).drop ((sealed bs).length - 2) = bytes2 (crc bs) ∧ (sealed bs).length = bs.length + 2 := by
  have h : (sealed bs).length = bs.length + 2 := by simp [sealed]
  refine ⟨?_, ?_, h⟩ <;> rw [h] <;> simp [sealed]

/-! ## The notice queue (R190) -/

theorem bumpOverflow_length (q : List NoticeEntry) : (bumpOverflow q).length = q.length := by
  unfold bumpOverflow
  split
  · rename_i h
    have : q ≠ [] := by rintro rfl; simp at h
    have := List.length_pos_iff.mpr this
    simp; omega
  · rfl

/-- The three cases of a notice handed over (R190). -/
theorem queueNotice_cases (t : BitVec 32) (n : Notice) (q : List NoticeEntry) :
    (q.length ≤ 30 ∧ queueNotice t n q = q ++ [⟨t, n⟩]) ∨
    (q.length = 31 ∧ queueNotice t n q = q ++ [⟨t, .overflow 1 t⟩]) ∨
    (32 ≤ q.length ∧ queueNotice t n q = bumpOverflow q) := by
  unfold queueNotice
  split
  · exact .inl ⟨‹_›, rfl⟩
  · split
    · exact .inr (.inl ⟨‹_›, rfl⟩)
    · exact .inr (.inr ⟨by omega, rfl⟩)

/-! ## The exchange (R185, R187) -/

theorem exchange_inResponse {r : List Byte} {s : State} (h : s.link.response = some r) (msg : List Byte)
    (body : State → State × Reply) : exchange msg body s = clockResponse r msg.length s := by
  simp [exchange, h]

theorem exchange_inCommand {s : State} (h : s.link.response = none) {msg : List Byte} (hm : msg ≠ [])
    (body : State → State × Reply) : exchange msg body s = takeMessage msg body s := by
  simp [exchange, h, hm]

theorem message_ne_nil (code : Byte) (params : List Byte) : message code params ≠ [] := by
  simp [message, sealed, bytes2]

/-- A host command in COMMAND phase is taken as its message (R185, 11.3). -/
theorem sendCommand_inCommand {c : Instr} {code : Byte} (hc : commandCode c = some code) {s : State}
    (h : s.link.response = none) (body : State → State × Reply) :
    sendCommand c body s = takeMessage (message code (commandParams c)) body s := by
  have : encodeMessage c = some (message code (commandParams c)) := by simp [encodeMessage, hc]
  rw [sendCommand, this]
  exact exchange_inCommand h (message_ne_nil _ _) body

/-- A message carries its command code at offset 2 (11.3). -/
theorem message_code (code : Byte) (params : List Byte) : (message code params).getD 2 0#8 = code := by
  simp [message, sealed, bytes2]

section
variable (msg : List Byte) (body : State → State × Reply) (s : State)

@[simp] theorem takeMessage_time : (takeMessage msg body s).time = (carryOut body s).1.time := rfl
@[simp] theorem takeMessage_settings : (takeMessage msg body s).settings = (carryOut body s).1.settings := rfl
@[simp] theorem takeMessage_posture : (takeMessage msg body s).posture = (carryOut body s).1.posture := rfl
@[simp] theorem takeMessage_causes : (takeMessage msg body s).causes = (carryOut body s).1.causes := rfl
@[simp] theorem takeMessage_holdRecord : (takeMessage msg body s).holdRecord = (carryOut body s).1.holdRecord := rfl
@[simp] theorem takeMessage_unloadRecord : (takeMessage msg body s).unloadRecord = (carryOut body s).1.unloadRecord :=
  rfl
@[simp] theorem takeMessage_program : (takeMessage msg body s).program = (carryOut body s).1.program := rfl
@[simp] theorem takeMessage_servo : (takeMessage msg body s).servo = (carryOut body s).1.servo := rfl
@[simp] theorem takeMessage_line : (takeMessage msg body s).line = (carryOut body s).1.line := rfl
@[simp] theorem takeMessage_peers : (takeMessage msg body s).peers = (carryOut body s).1.peers := rfl
@[simp] theorem takeMessage_strain : (takeMessage msg body s).strain = (carryOut body s).1.strain := rfl
@[simp] theorem takeMessage_crack : (takeMessage msg body s).crack = (carryOut body s).1.crack := rfl
@[simp] theorem takeMessage_ports : (takeMessage msg body s).ports = (carryOut body s).1.ports := rfl
@[simp] theorem takeMessage_timers : (takeMessage msg body s).timers = (carryOut body s).1.timers := rfl
@[simp] theorem takeMessage_draws : (takeMessage msg body s).draws = (carryOut body s).1.draws := rfl
@[simp] theorem takeMessage_pending : (takeMessage msg body s).pending = (carryOut body s).1.pending := rfl
@[simp] theorem takeMessage_notices : (takeMessage msg body s).link.notices = (carryOut body s).1.link.notices := rfl
@[simp] theorem takeMessage_silence :
    (takeMessage msg body s).link.silence = freshSilence (carryOut body s).1.settings.hostSilence := rfl
@[simp] theorem takeMessage_sent : (takeMessage msg body s).link.sent = List.replicate msg.length 0#8 := rfl
@[simp] theorem takeMessage_response :
    (takeMessage msg body s).link.response =
      some (responseBytes (msg.getD 2 0#8) (carryOut body s).2 (carryOut body s).1.link.notices.length) := rfl

/-- With HOST_SILENT's condition false, step 1 of R187 does nothing. -/
theorem carryOut_quiet (h : (s.entry .hostSilent).condition = false) : carryOut body s = body s := by
  have : report .hostSilent false s = s := by simp [report, reportWith, h]
  rw [carryOut, this]

end

end Sys2Proof.Laws
end

