-- ==== Sys2Proof/Laws/PerInstr.lean ====
section
/-! SUPPORT. One family of lemmas, one lemma per constructor: the parameter bytes of every host command are read back as
that command (11.3, R186), and a row that is no host command has no message. -/

namespace Sys2Proof.Laws.ReadBack

open Sys2Proof Sys2Proof.Machine

/-- The host command's parameters are read back as the command; an APPEND of an unknown kind is answered FORMAT. -/
def Statement (i : Instr) : Prop :=
  i.wellFormed = true → ∀ code, commandCode i = some code →
    parseCommand code (commandParams i) =
      match i with
      | .append (.unknown _ _) _ => .error .format
      | c => .ok c

theorem powerOnReset : Statement .powerOnReset := by
  intro _ code h; cases h

theorem reset : Statement .reset := by
  intro _ code h; cases h; rfl

theorem set (n i : Byte) (v : BitVec 32) : Statement (.set n i v) := by
  intro _ code h; cases h
  exact congrArg (fun x => Except.ok (Instr.set n i x)) (join4_bytes v)

theorem get (n i : Byte) : Statement (.get n i) := by
  intro _ code h; cases h; rfl

theorem start : Statement .start := by
  intro _ code h; cases h; rfl

theorem hold : Statement .hold := by
  intro _ code h; cases h; rfl

theorem resume : Statement .resume := by
  intro _ code h; cases h; rfl

theorem unload : Statement .unload := by
  intro _ code h; cases h; rfl

theorem clear : Statement .clear := by
  intro _ code h; cases h; rfl

theorem append (seg : SegReq) (inspect : Bool) : Statement (.append seg inspect) := by
  intro wf code h
  cases h
  cases seg with
  | ramp target rate =>
    have e : parseSegment (segParams (.ramp target rate) inspect) =
        .ok (.append (.ramp target rate) inspect) := by
      cases inspect <;> simp [segParams, parseSegment, bytes3, segFlags]
    exact e
  | dwell duration =>
    have e : parseSegment (segParams (.dwell duration) inspect) = .ok (.append (.dwell duration) inspect) := by
      cases inspect <;> simp [segParams, parseSegment, bytes4, segFlags]
    exact e
  | cycle mean amplitude quarter count watch =>
    have e : parseSegment (segParams (.cycle mean amplitude quarter count watch) inspect) =
        .ok (.append (.cycle mean amplitude quarter count watch) inspect) := by
      cases inspect <;> cases watch <;> simp [segParams, parseSegment, bytes3, bytes2, segFlags]
    exact e
  | unknown kind fields =>
    simp only [Instr.wellFormed, Bool.and_eq_true, decide_eq_true_eq, ne_eq] at wf
    have e : parseSegment (segParams (.unknown kind fields) inspect) = .error .format := by
      simp [segParams, parseSegment, wf]
    exact e

theorem flush : Statement .flush := by
  intro _ code h; cases h; rfl

theorem ack (k i : Byte) : Statement (.ack k i) := by
  intro _ code h; cases h; rfl

theorem ackAll : Statement .ackAll := by
  intro _ code h; cases h; rfl

theorem zero (mask : BitVec 32) : Statement (.zero mask) := by
  intro _ code h; cases h
  exact congrArg (fun x => Except.ok (Instr.zero x)) (join4_bytes mask)

theorem clearExtremes : Statement .clearExtremes := by
  intro _ code h; cases h; rfl

theorem clearPeak : Statement .clearPeak := by
  intro _ code h; cases h; rfl

theorem forget (id : Byte) : Statement (.forget id) := by
  intro _ code h; cases h; rfl

theorem readStatus : Statement .readStatus := by
  intro _ code h; cases h; rfl

theorem readCauses : Statement .readCauses := by
  intro _ code h; cases h; rfl

theorem readRecords : Statement .readRecords := by
  intro _ code h; cases h; rfl

theorem readPeers : Statement .readPeers := by
  intro _ code h; cases h; rfl

theorem readStrain : Statement .readStrain := by
  intro _ code h; cases h; rfl

theorem readDrift : Statement .readDrift := by
  intro _ code h; cases h; rfl

theorem readHits : Statement .readHits := by
  intro _ code h; cases h; rfl

theorem readNotices : Statement .readNotices := by
  intro _ code h; cases h; rfl

theorem readLine : Statement .readLine := by
  intro _ code h; cases h; rfl

theorem unknownCommand (m : List Byte) : Statement (.unknownCommand m) := by
  intro _ code h; cases h

theorem pendingResponseRead (n : Nat) : Statement (.pendingResponseRead n) := by
  intro _ code h; cases h

theorem controlPeriodExpiry : Statement .controlPeriodExpiry := by
  intro _ code h; cases h

theorem loadStale : Statement .loadStale := by
  intro _ code h; cases h

theorem settleTimeExceeded : Statement .settleTimeExceeded := by
  intro _ code h; cases h

theorem reportPeriodExpiry : Statement .reportPeriodExpiry := by
  intro _ code h; cases h

theorem chatterWindowExpiry : Statement .chatterWindowExpiry := by
  intro _ code h; cases h

theorem rateWindowExpiry : Statement .rateWindowExpiry := by
  intro _ code h; cases h

theorem hostSilenceExpiry : Statement .hostSilenceExpiry := by
  intro _ code h; cases h

theorem interlockInputChange (l : Fin 4) (o : Bool) : Statement (.interlockInputChange l o) := by
  intro _ code h; cases h

theorem debounceExpiry (l : Fin 4) : Statement (.debounceExpiry l) := by
  intro _ code h; cases h

theorem loadSample (v : BitVec 24) : Statement (.loadSample v) := by
  intro _ code h; cases h

theorem displacementSample (v : BitVec 24) : Statement (.displacementSample v) := by
  intro _ code h; cases h

theorem strainSample (ch : Fin 32) (v : BitVec 24) : Statement (.strainSample ch v) := by
  intro _ code h; cases h

theorem envelopeSample (ch : Fin 8) (v : Byte) : Statement (.envelopeSample ch v) := by
  intro _ code h; cases h

theorem hitEnd (ch : Fin 8) (v : Byte) : Statement (.hitEnd ch v) := by
  intro _ code h; cases h

theorem lockoutEnd (ch : Fin 8) (v : Byte) : Statement (.lockoutEnd ch v) := by
  intro _ code h; cases h

theorem frameReceived (cs : List Byte) (stop : StopBit) (noisy : Bool) : Statement (.frameReceived cs stop noisy) := by
  intro _ code h; cases h

theorem breakRecognised : Statement .breakRecognised := by
  intro _ code h; cases h

theorem receiverHuntResume : Statement .receiverHuntResume := by
  intro _ code h; cases h

theorem attemptStart : Statement .attemptStart := by
  intro _ code h; cases h

theorem frameSent : Statement .frameSent := by
  intro _ code h; cases h

theorem contention (bit : Nat) : Statement (.contention bit) := by
  intro _ code h; cases h

theorem backoffEnd : Statement .backoffEnd := by
  intro _ code h; cases h

theorem breakEnd : Statement .breakEnd := by
  intro _ code h; cases h

theorem falseStart (noisy : Bool) : Statement (.falseStart noisy) := by
  intro _ code h; cases h

theorem lineReturnsToMark : Statement .lineReturnsToMark := by
  intro _ code h; cases h

end Sys2Proof.Laws.ReadBack
end

