-- ==== Sys2Proof/Tests/Slice0.lean ====
section
/-! SUPPORT. Tests: ill-formed terms that WellFormed refuses, the byte layouts of 11 and the checks of R72 worked out by
hand, the worked examples of the manual one step at a time, and for each statement a state and operands that meet its
hypotheses. -/

namespace Sys2Proof.Tests

open Sys2Proof Sys2Proof.Machine Sys2Proof.Claims Sys2Proof.Safety

set_option maxRecDepth 200000

/-! ## States to test on -/

/-- The state an outcome answers. -/
def after (o : Outcome) : State :=
  match o with
  | .next t => t
  | .fault _ | .refused _ => State.reset

/-- The state after reset in a posture. -/
def inPosture (p : Posture) : State := { State.reset with posture := p }

/-- A state with one cause entry written. -/
def withEntry (c : Cause) (condition latched : Bool) (s : State) : State :=
  setEntry c { condition := condition, latched := latched } s

/-- A posture with a load of 100 just taken, and LOAD_STALE false. -/
def loaded (p : Posture) : State :=
  withEntry .loadStale false false
    { inPosture p with servo := { State.reset.servo with load := some 100, stale := 0, loadSeen := true } }

/-- A station of group 1 with id 4 in a posture, its load taken. -/
def member (p : Posture) : State :=
  { loaded p with settings := { State.reset.settings with stationId := 4, group := 1, ceiling := 1000 } }

/-- A message of COMMAND phase sent before: a response of 8 bytes is pending. -/
def answering : State := { State.reset with link := { State.reset.link with response := some (List.replicate 8 7#8) } }

/-- A state whose transmitter sends an attempt at its report slot. -/
def sending (attempts collisions : Nat) : State :=
  { member .idle with
    line :=
      { State.reset.line with
        reportSlot := some ⟨attempts, collisions⟩
        tx := .sending ⟨.report, ⟨attempts, collisions⟩, [], 0⟩
        generator := 4 } }

/-- A peer in RUN. -/
def peer (id group : Nat) : Peer :=
  { id := id, group := group, weight := 1, posture := .run, paced := false, starved := false, derated := false,
    firstCause := 0, holdCount := 0, progress := 65536, load := 100, age := 0, lost := false, chatterCount := 0,
    chattering := false }

def withPeers (es : List Peer) (s : State) : State := { s with peers := { s.peers with entries := es } }

/-- A station in RUN with one segment in flight. -/
def flying (body : SegBody) (g : Generator) (setpoint : Int) : State :=
  { member .run with
    program :=
      { State.reset.program with
        queue := [⟨1, body, false, false⟩], flight := some g, nextToAssign := 2, setpoint := setpoint } }

/-- A strain channel 7 with a band state and counts. -/
def strained (cfg : StrainSettings) (c : StrainChannel) (s : State) : State :=
  { s with
    settings := { s.settings with strain := s.settings.strain.set 7 cfg }
    strain := { s.strain with channels := s.strain.channels.set 7 c } }

/-- A crack channel 2 with a detector. -/
def cracked (cfg : CrackSettings) (c : CrackChannel) (s : State) : State :=
  { s with
    settings := { s.settings with crack := s.settings.crack.set 2 cfg }
    crack := { s.crack with channels := s.crack.channels.set 2 c } }

/-- A station in DEFER with one slot pending. -/
def deferring (n : SlotName) : State :=
  { member .run with
    line :=
      { State.reset.line with
        tx := .defer
        unloadSlot := if n = .unload then ⟨some (⟨1, 0, .stroke⟩, {}), none⟩ else {}
        holdSlot := if n = .hold then ⟨some (⟨1, 5, .program⟩, {}), none⟩ else {}
        reportSlot := if n = .report then some ⟨15, 15⟩ else none } }

/-- A bit time at one level, other drivers active or not. -/
def bitAt (space carrier : Bool) : LineBit := ⟨carrier, false, space, space, space⟩

/-- A listening station with the inputs of the bit times to come and a reception. -/
def hearing (bits : List LineBit) (r : Option Reception) : State :=
  { member .run with line := { State.reset.line with heard := bits, taking := r } }

/-! ## Ill-formed terms -/

theorem test_refuses_unknown_segment_of_a_known_kind :
    (Instr.append (.unknown 1#8 []) false).wellFormed = false ∧
    (Instr.append (.unknown 2#8 []) false).wellFormed = false ∧
    (Instr.append (.unknown 3#8 []) false).wellFormed = false ∧
    (Instr.append (.unknown 4#8 []) false).wellFormed = true := by decide

theorem test_refuses_message_that_passes :
    (Instr.unknownCommand [0x00#8, 0x05#8, 0x10#8, 0xCE#8, 0x3A#8]).wellFormed = false ∧
    (Instr.unknownCommand []).wellFormed = false ∧
    (Instr.unknownCommand [0x00#8, 0x05#8, 0x10#8, 0xCE#8, 0x3B#8]).wellFormed = true := by decide

theorem test_refuses_characters_behind_the_frame :
    (Instr.frameReceived [] .mark false).wellFormed = false ∧
    (Instr.frameReceived [0x55#8, 0x6C#8] .mark false).wellFormed = false ∧
    (Instr.frameReceived (List.replicate 3 0x6C#8 ++ [0#8, 0#8, 0#8, 0#8]) .mark false).wellFormed = false ∧
    (Instr.frameReceived [0x55#8] .mark false).wellFormed = true := by decide

theorem test_refuses_bit_behind_the_longest_frame :
    (Instr.contention 200).wellFormed = false ∧ (Instr.contention 199).wellFormed = true := by decide

/-! ## Bytes (R72, R186, R199, R200; the checks worked out bit by bit from R72) -/

theorem test_start_message : encodeMessage .start = some [0x00#8, 0x05#8, 0x10#8, 0xCE#8, 0x3A#8] := by decide

theorem test_set_message_decodes :
    parseMessage [0x00#8, 0x0B#8, 0x01#8, 0x01#8, 0x00#8, 0x00#8, 0x00#8, 0x00#8, 0x04#8, 0xDA#8, 0x89#8] =
      .ok (.set 1#8 0#8 4#32) := by decide

theorem test_append_flags : encodeMessage (.append (.cycle (-1) 2 3 4 true) true) =
    some (message 0x20#8 [3#8, 3#8, 0xFF#8, 0xFF#8, 0xFF#8, 0#8, 0#8, 2#8, 0#8, 3#8, 0#8, 0#8, 4#8]) := by decide

theorem test_bad_length_is_format :
    parseMessage [0x00#8, 0x07#8, 0x20#8, 0x4E#8, 0x14#8] = .error .format ∧
    parseMessage [0x00#8, 0x05#8, 0x03#8] = .error .format := by decide

theorem test_hold_notice_frame :
    judgeFrame [0x6C#8, 0x32#8, 0x05#8, 0x04#8, 0x01#8, 0x00#8, 0x05#8, 0x06#8, 0x64#8, 0x71#8] =
      .good ⟨5#8, .holdNotice ⟨1#8, 0#8, 5#8, 6#8⟩⟩ := by decide

theorem test_no_table_word_decodes : decodeTableWord 8 0 = none := rfl

/-! ## Arithmetic (00; R31, R39, R45) -/

theorem test_halves_round_away : roundDiv 3 2 = 2 ∧ roundDiv (-3) 2 = -2 ∧ roundDiv 504350 65536 = 8 := by decide

theorem test_triangle : triangle 166 3 1 = 55 ∧ triangle 166 3 3 = 166 ∧ triangle 166 3 8 = -110 ∧
    triangle 166 3 9 = -166 ∧ triangle 166 3 11 = -55 := by decide

theorem test_amplitude_room : clampBody { floor := 10, ceiling := 100 } (.cycle 90 50 0 0 false) =
    .cycle 90 10 1 1 false := by decide

/-! ## Servo (3.4) -/

/-- The settings of 3.4. -/
def servoSettings : Settings :=
  { ceiling := 200000, kp := 2048, ki := 655, integratorLimit := 8000, valveLimit := 4096, slewLimit := 100 }

theorem test_worked_computation :
    loopStages servoSettings 149230 { target := 150000, integrator := 1200, valve := 1450 } =
      { target := 150000, error := 770, integrator := 1208, valve := 1550 } := by decide

theorem test_integrator_held :
    loopStages servoSettings 139000 { target := 150000, integrator := 1320, valve := 4096, satDir := .plus, satCount := 1 } =
      { target := 150000, error := 11000, integrator := 1320, valve := 4096, satDir := .plus, satCount := 2 } := by
  decide

theorem test_error_clamp : loopError 600000 (-700000) = 1048575 ∧ proportional servoSettings 1048575 = 524288 ∧
    proportional { kp := 65535 } 1048575 = 16776944 := by decide

theorem test_unload_setpoint : unloadToward { unloadFloor := 2000, unloadStep := 50 } 150000 = 149950 ∧
    unloadToward { unloadFloor := 2000, unloadStep := 50 } 2050 = 2000 := by decide

/-! ## Share and pacing (6.2, 6.3) -/

theorem test_share_of_station_B :
    trimAfter { shareGain := 64, trimLimit := 1000, weight := 1 } 52000
      [{ peer 1 1 with weight := 2, load := 100000 }, { peer 3 1 with load := 49000 },
        { peer 4 1 with weight := 2, load := 101000 }] 0 = -416 := by decide

theorem test_pacing_hysteresis : pacedAfter 8192 (some 8193) false = true ∧ pacedAfter 8192 (some 8192) false = false ∧
    pacedAfter 8192 (some 4097) true = true ∧ pacedAfter 8192 (some 4096) true = false := by decide

/-! ## Strain, drift and crack (7.7, 8.5, 9.7) -/

theorem test_conversion :
    convertStrain { zeroOffset := 120000 } 150008 = 1876 ∧ convertStrain { zeroOffset := 120000 } 119992 = -1 ∧
    convertStrain { zeroOffset := 120000 } 700000 = 32767 ∧
    convertStrain { zeroOffset := 120000, negative := true } 150008 = -1876 := by decide

theorem test_band_trips_and_releases :
    bandStep { tripCount := 3, upperTrip := 1800, upperRelease := 1700 } ⟨.within, 2, 0⟩ 1840 = ⟨.above, 0, 0⟩ ∧
    bandStep { tripCount := 3, upperTrip := 1800, upperRelease := 1700 } ⟨.above, 0, 0⟩ 1720 = ⟨.above, 0, 0⟩ ∧
    bandStep { tripCount := 3, upperTrip := 1800, upperRelease := 1700 } ⟨.above, 0, 0⟩ 1700 = ⟨.within, 0, 0⟩ := by
  decide

theorem test_drift : driftOf 418 412 = 14 ∧ driftOf 468 412 = 135 ∧ driftOf 398 412 = -33 := by decide

theorem test_reference_forms :
    (closeRecord { referenceCycles := 4 } false { sum := 1234, gathered := 3, cycle := some (414, 0) }).reference =
      some 412 := by decide

theorem test_hit_extends :
    extendHit 45 73 ⟨0, 0, 0, 61, 1, 2, 5, 0, false⟩ = ⟨0, 0, 0, 73, 5, 2, 6, 0, false⟩ ∧
    extendHit 45 47 ⟨0, 0, 0, 61, 1, 1, 4, 1, true⟩ = ⟨0, 0, 0, 61, 1, 2, 5, 0, false⟩ := by decide

theorem test_felicity : felicityOf {} ⟨0, 284765, 300000, 73, 5, 3, 13, 4, true⟩ = true ∧
    felicityOf {} ⟨0, 284766, 300000, 73, 5, 3, 13, 4, true⟩ = false := by decide

/-! ## The hall line (4.5) -/

theorem test_generator : nextGenerator 4 = 49005 ∧ nextGenerator 11 = 28608 ∧ nextGenerator 49005 = 32586 ∧
    drawSlots 1 4 = 1 ∧ drawSlots 1 11 = 0 ∧ drawSlots 2 49005 = 2 := by decide

theorem test_collision_of_station_A :
    (after (exec (.contention 0) (sending 1 0))).line.wait = 256 ∧
    (after (exec (.contention 0) (sending 1 0))).line.tx = .backoff := by decide

theorem test_report_frame_bits : frameBits (encodeFrame (frameOf .report (member .run))) = 200 := by decide

/-! ## The hall line bit by bit (R69, R70, R71, R74, R79, R83) -/

theorem test_character_levels : (List.range 10).map (characterLevel 0x6C#8) =
    [true, true, true, false, false, true, false, false, true, false] := by decide

theorem test_frame_starts_with_ten_marks : (List.range 11).map (frameLevel [0x6C#8]) =
    [false, false, false, false, false, false, false, false, false, false, true] := by decide

theorem test_majority_and_noise :
    (⟨true, false, true, false, true⟩ : LineBit).space = true ∧ (⟨true, false, true, false, true⟩ : LineBit).noisy = true ∧
    (bitAt true true).noisy = false := by decide

theorem test_false_start : (after (step (hearing [⟨true, true, true, false, false⟩] none))).pending = [.falseStart true] ∧
    (after (step (hearing [⟨true, true, true, false, false⟩] none))).line.noise = true := by decide

theorem test_character_is_taken :
    (after (step (hearing [bitAt false true] (some ⟨[0x6C#8, 0x31#8], (List.range 9).map (characterLevel 0x05#8)⟩)))).line.taking =
      some ⟨[0x6C#8, 0x31#8, 0x05#8], []⟩ := by decide

theorem test_carrier_holds_the_idle_count :
    (after (step (hearing [bitAt false true] none))).line.idleCount = 0 ∧
    (after (step (hearing [bitAt false false] none))).line.idleCount = 1 := by decide

theorem test_contention_is_heard : (after (step
    { sending 1 0 with line := { (sending 1 0).line with heard := [bitAt false true] } })).pending = [.contention 0] := by
  decide

/-- At an idle count of 20 an attempt starts in the same bit time (R79; 4.5). -/
theorem test_attempt_starts_at_once :
    (after (step { deferring .report with line := { (deferring .report).line with idleCount := 20 } })).pending =
      [.attemptStart] ∧
    (after (step { deferring .report with line := { (deferring .report).line with idleCount := 20 } })).time = 0 := by
  decide

/-! ## The station link bit by bit (R185) -/

/-- A station whose select is asserted, with bits clocked in and what the host does next. -/
def selecting (bits : List Bool) (edges : List HostEdge) (s : State) : State :=
  { s with link := { s.link with select := true, bits := bits, edges := edges } }

theorem test_bytes_are_most_significant_bit_first :
    wholeBytes [true, false, false, false, false, false, true, true, true, true] = [0x83#8] := by decide

theorem test_released_select_is_a_command :
    (after (step (selecting (messageBits [0x00#8, 0x05#8, 0x10#8, 0xCE#8, 0x3A#8] ++ [true, false, true]) [.release]
      State.reset))).pending = [.start] := by decide

theorem test_select_without_a_whole_byte_is_ignored :
    (after (step (selecting (List.replicate 7 true) [.release] State.reset))).pending = [] := by decide

theorem test_response_bits_go_out : (List.range 9).map ({ answering.link with response := some [0x81#8] }).bitSent =
    [true, false, false, false, false, false, false, true, false] := by decide

theorem test_partial_read_keeps_the_response :
    (after (step (selecting (List.replicate 63 false) [.release] answering))).pending = [.pendingResponseRead 7] := by
  decide

/-! ## One command at a time -/

theorem test_reset_is_at_rest : State.reset.posture = .idle ∧ (State.reset.entry .loadStale).condition = true ∧
    State.reset.program.progress = 65536#32 ∧ State.reset.servo.peak = -8388607 := by decide

theorem test_set_answers_the_value : (after (exec (.set 1#8 0#8 4#32) State.reset)).link.response =
    some (responseBytes 1#8 ⟨.ok, [0#8, 0#8, 0#8, 4#8]⟩ 0) := by decide

theorem test_power_on_keeps_the_pin : (after (exec .powerOnReset
    { State.reset with ports := State.reset.ports.set 1 ⟨true, true, none⟩ })).ports[1] =
      ⟨true, false, some 10000⟩ := by decide

theorem test_start_enters_run : (after (exec .start (member .idle))).posture = .run ∧
    (after (exec .start (member .idle))).program.setpoint = 25600 := by decide

theorem test_hold_then_resume :
    (after (exec .hold (member .run))).posture = .hold ∧ (after (exec .resume (member .hold))).posture = .run := by
  decide

theorem test_unload_keeps_the_target : (after (exec .unload
    { member .run with servo := { (member .run).servo with target := 77 } })).servo.unloadSetpoint = 77 := by decide

theorem test_clear_gives_idle : (after (exec .clear (member .safe))).posture = .idle := by decide

theorem test_flush_counts : (after (exec .flush (flying (.dwell 5) (.dwell 0) 0))).program.queue.length = 1 := by decide

theorem test_ack_of_a_false_level_entry_clears :
    ((after (exec (.ack 13#8 0#8) (withEntry .stroke false true State.reset))).entry .stroke).latched = false ∧
    ((after (exec (.ack 13#8 0#8) (withEntry .stroke true true State.reset))).entry .stroke).latched = true := by decide

theorem test_ack_all_clears_edges :
    ((after (exec .ackAll (withEntry .idClash false true State.reset))).entry .idClash).latched = false := by decide

theorem test_zero_mask : startedMask 0x81#32 (strained { enable := true } {} State.reset) = 128 := by decide

theorem test_forget : (after (exec (.forget 9#8) (withPeers [peer 9 1] State.reset))).peers.entries = [] := by decide

theorem test_status_record : (statusRecord State.reset).length = 64 ∧ (statusRecord State.reset).take 8 =
    [0#8, 0#8, 0#8, 1#8, 0#8, 0#8, 0#8, 0#8] := by decide

theorem test_read_line_clears : (after (exec .readLine
    { State.reset with line := { State.reset.line with breakHeard := true } })).line.breakHeard = false := by decide

theorem test_response_goes_out : (after (exec (.pendingResponseRead 9) answering)).link.sent =
    [7#8, 7#8, 7#8, 7#8, 7#8, 7#8, 7#8, 7#8, 0#8] := by decide

theorem test_ramp_lands : (after (exec .controlPeriodExpiry
    (flying (.ramp 10 256) (.ramp 0) 2304))).program.lastCompleted = 1 := by decide

theorem test_report_slot_fills : (after (exec .reportPeriodExpiry (member .idle))).line.reportSlot = some {} := by decide

theorem test_age_loses_a_peer :
    (agedPeer {} { peer 9 1 with age := 9 }).lost = true ∧ (agedPeer {} { peer 9 1 with age := 8 }).lost = false := by
  decide

theorem test_debounce_opens : (after (exec (.debounceExpiry 1)
    { member .run with ports := State.reset.ports.set 1 ⟨true, false, some 0⟩ })).posture = .hold := by decide

theorem test_load_sample : (after (exec (.loadSample 0xFFFFFE#24) State.reset)).servo.load = some (-2) ∧
    (after (exec (.loadSample 0x800000#24) State.reset)).servo.load = none := by decide

theorem test_stroke_unloads : (after (exec (.displacementSample 5#24)
    { member .run with settings := { (member .run).settings with strokeMax := 4 } })).posture = .unload := by decide

theorem test_break_unloads : (after (exec .breakRecognised (member .run))).posture = .unload := by decide

theorem test_own_id_clashes :
    ((after (exec (.frameReceived (encodeFrame ⟨4#8, .holdNotice ⟨1#8, 0#8, 5#8, 0#8⟩⟩) .mark false)
      (member .idle))).entry .idClash).latched = true := by decide

theorem test_peer_hold_holds :
    (after (exec (.frameReceived (encodeFrame ⟨9#8, .holdNotice ⟨1#8, 5#8, 5#8, 0#8⟩⟩) .mark false)
      (withPeers [peer 9 1] (member .run)))).posture = .hold := by decide

theorem test_attempt_starts : (after (exec .attemptStart { member .idle with
    line := { State.reset.line with reportSlot := some {}, tx := .defer } })).line.reportSlot = some ⟨1, 0⟩ := by decide

/-! ## Hypotheses that can be met: the exchange and the settings -/

/-- A notice queue of n entries. -/
def crowded (n : Nat) (s : State) : State :=
  { s with link := { s.link with notices := List.replicate n ⟨0, .peerBack 9⟩ } }

theorem witness_StepRunsTheFrontCommand :
    ({ State.reset with pending := [.start, .hold] } : State).pending = .start :: [.hold] := rfl

theorem witness_EmptyQueueLetsOneBitTimePass :
    State.reset.pending = [] ∧ TimePasses State.reset ∧ TimePasses (selecting [] [.pause, .release] State.reset) ∧
    1 < State.reset.timers.control ∧
    ({ State.reset with timers := { State.reset.timers with control := 1 } } : State).timers.control ≤ 1 ∧
    StartsAtOnce { deferring .report with line := { (deferring .report).line with idleCount := 20 } } ∧
    ¬StartsAtOnce { deferring .report with line := { (deferring .report).line with idleCount := 19 } } := by decide

theorem witness_EveryBitTimeOfTheLineIsRead :
    (hearing [bitAt true true] none).pending = [] ∧ TimePasses (hearing [bitAt true true] none) ∧
    (hearing [bitAt true true] none).line.heard.head? = some (bitAt true true) ∧ Listens (hearing [bitAt true true] none) ∧
    (hearing [bitAt true true] none).line.space = false ∧ majoritySpace (bitAt true true) ∧
    majoritySpace ⟨true, false, true, false, true⟩ ∧ ¬majoritySpace ⟨true, true, true, false, false⟩ ∧
    (hearing [] (some ⟨[0x6C#8], []⟩)).line.taking = some ⟨[0x6C#8], []⟩ ∧
    ((List.range 8).map (characterLevel 0x31#8)).length < 9 ∧
    (frameLength [0x6C#8, 0x31#8]).all (fun n => decide (2 < n)) = true ∧
    (frameLength (encodeFrame (frameOf .report (member .run)))).any
      (fun n => decide (n ≤ (encodeFrame (frameOf .report (member .run))).length)) = true ∧
    (sending 1 0).line.tx = .sending ⟨.report, ⟨1, 0⟩, [], 0⟩ ∧
    ({ State.reset with line := { State.reset.line with tx := .breaking 39 } } : State).line.tx = .breaking 39 ∧
    ¬Listens (sending 1 0) := by decide

theorem witness_PendingResponseIsClockedOut :
    answering.link.response = some (List.replicate 8 7#8) ∧ State.reset.link.response = none ∧
    encodeMessage .start = some [0x00#8, 0x05#8, 0x10#8, 0xCE#8, 0x3A#8] := by decide

theorem witness_PendingResponseIsClockedOut_bits :
    (selecting [true] [.release] answering).pending = [] ∧ ¬StartsAtOnce (selecting [true] [.release] answering) ∧
    (selecting [true] [.release] answering).link.bits = messageBits [] ++ [true] ∧ [true].length < 8 ∧
    (selecting (messageBits [7#8]) [.release] State.reset).link.bits = messageBits [7#8] ++ [] ∧
    parseMessage [7#8] = .error .format ∧ State.reset.link.select = false ∧
    (selecting (messageBits [7#8]) [] answering).link.bits.length = 8 * 1 + 0 := by decide

theorem witness_EveryCommandTakenIsAnswered :
    commandCode .reset = some 0x7F#8 ∧ (withEntry .hostSilent true true State.reset).link.response = none ∧
    ((withEntry .hostSilent true true State.reset).entry .hostSilent).condition = true := by decide

theorem witness_MessageRoundTrip :
    (Instr.append (.cycle (-1) 2 3 4 true) true).wellFormed = true ∧
    (∀ k fs b, Instr.append (.cycle (-1) 2 3 4 true) true ≠ .append (.unknown k fs) b) ∧
    (encodeMessage (.append (.cycle (-1) 2 3 4 true) true)).isSome = true := by
  refine ⟨by decide, ?_, by decide⟩
  intro k fs b h
  simp at h

theorem witness_MessageByItsBytesActsAsItsCommand :
    (Instr.append (.unknown 4#8 [1#8]) false).wellFormed = true ∧
    ((encodeMessage (.append (.unknown 4#8 [1#8]) false)).getD []).length < 65536 ∧
    (Instr.unknownCommand [0x00#8]).wellFormed = true ∧ Ready State.reset := by decide

theorem witness_FrameRoundTrip : (⟨255#8, .unloadNotice ⟨1#8, 0#8, 18#8, 0#8⟩⟩ : Frame).source ≠ 0#8 := by decide

theorem witness_SetWritesItsSettingAlone :
    Ready State.reset ∧ State.reset.posture = .idle ∧ settingAllowed 1 0 255 State.reset.settings = true ∧
    settingAllowed 1 0 256 State.reset.settings = false ∧ settingAllowed 71 0 0 State.reset.settings = false ∧
    settingAllowed 46 31 32767 State.reset.settings = true ∧ 46 ∉ reevaluated ∧
    readSetting 4 0 State.reset.settings = 20 := by decide

theorem witness_GetAnswersTheValueHeld :
    Ready (inPosture .safe) ∧ settingExists 65 7 = true ∧ settingExists 65 8 = false ∧ settingExists 0 0 = false ∧
    (inPosture .safe).posture ≠ .idle ∧ settingAllowed 3 0 0 State.reset.settings = false := by decide

theorem witness_SetOfStationIdOrGroupActsAtOnce :
    Ready (member .idle) ∧ (member .idle).posture = .idle ∧ peerConditionLaw (member .idle) ∧ demandLaw (member .idle) ∧
    (255#32).toInt = 255 ∧ ((255#32).toInt : Int) ≠ (member .idle).settings.stationId ∧
    ((0#32).toInt : Int) ≠ (member .idle).settings.stationId ∧ ((2#32).toInt : Int) ≠ (member .idle).settings.group ∧
    (withPeers [peer 9 1] (member .idle)).peers.entries.filter (fun e => e.group ≠ (2#32).toNat) = [peer 9 1] := by
  decide

theorem witness_SetOfAnEvaluatedSettingActsAtOnce :
    Ready State.reset ∧ State.reset.posture = .idle ∧ settingAllowed 5 0 1 State.reset.settings = true ∧
    readSetting 5 0 State.reset.settings ≠ 1 ∧ settingAllowed 6 0 1 State.reset.settings = true ∧
    readSetting 6 0 State.reset.settings ≠ 1 ∧ settingAllowed 23 0 1 State.reset.settings = true ∧
    readSetting 23 0 State.reset.settings ≠ 1 ∧ settingAllowed 26 3 1 State.reset.settings = true ∧
    readSetting 26 3 State.reset.settings = 0 ∧ settingAllowed 26 2 0 State.reset.settings = true ∧
    readSetting 26 2 State.reset.settings = 1 ∧
    settingAllowed 39 31 1 State.reset.settings = true ∧ readSetting 39 31 State.reset.settings = 0 ∧
    settingAllowed 39 7 0 (strained { enable := true } { zeroing := some ⟨3, 0⟩ } State.reset).settings = true ∧
    readSetting 39 7 (strained { enable := true } { zeroing := some ⟨3, 0⟩ } State.reset).settings = 1 ∧
    settingAllowed 50 7 1 (strained { enable := true } {} State.reset).settings = true ∧
    readSetting 50 7 (strained { enable := true } {} State.reset).settings = 0 ∧
    settingAllowed 55 7 1 State.reset.settings = true ∧ readSetting 55 7 State.reset.settings = 0 := by decide

theorem witness_SetOfAnEvaluatedSettingActsAtOnce_evaluations :
    ([17, 18, 19, 28, 48, 49, 53, 63, 64].all fun n =>
      settingAllowed n 0 (if n = 28 ∨ n = 64 then 0 else 1) State.reset.settings &&
        readSetting n 0 State.reset.settings != (if n = 28 ∨ n = 64 then 0 else 1)) = true ∧
    State.reset.settings.crack[0].mode ≠ .follow ∧ demandLaw State.reset ∧ State.reset.servo.load = none ∧
    ({ State.reset.servo with displacement := some 5 }).displacement = some 5 := by decide

/-! ## Hypotheses that can be met: posture commands and the program -/

theorem witness_BusyCommandsChangeNothing :
    Ready (inPosture .run) ∧ commandCode (.zero 0#32) = some 0x40#8 ∧ busyIn (inPosture .run).posture (.zero 0#32) = true ∧
    busyIn .idle .hold = true ∧ busyIn .hold .clear = true ∧ busyIn .unload (.append (.dwell 1#32) false) = true ∧
    busyIn .safe .clearPeak = true := by decide

theorem witness_StartIsRefusedByItsFirstFailingCheck :
    Ready (member .idle) ∧ State.reset.settings.stationId = 0 ∧ (member .idle).settings.stationId ≠ 0 ∧
    (member .idle).settings.group ≠ 0 ∧ limitsOrdered (member .idle) ∧
    ¬limitsOrdered { member .idle with settings := { (member .idle).settings with unloadFloor := -1 } } ∧
    ((withEntry .loadStale true true (member .idle)).entry .loadStale).condition = true ∧
    ((member .idle).entry .loadStale).condition = false ∧
    ((withEntry .peerUnload true true (member .idle)).entry .peerUnload).condition = true ∧
    classOf (member .idle).settings .inspect ≠ .report ∧
    ((withEntry .inspect false true (member .idle)).entry .inspect).latched = true := by decide

theorem witness_StartRunsOrHolds :
    Ready (member .idle) ∧ (member .idle).posture = .idle ∧ startable (member .idle) ∧
    (member .idle).program.flight = none ∧ (member .idle).program.queue = [] ∧
    ((member .idle).entry .peerHold).condition = false ∧ Ready (withEntry .peerHold true true (member .idle)) ∧
    startable (withEntry .peerHold true true (member .idle)) ∧
    ((withEntry .peerHold true true (member .idle)).entry .peerHold).condition = true := by decide

/-- A station with its hold demand up. -/
def demanding (s : State) : State := { s with line := { s.line with holdTime := 5, demandCause := some .program } }

theorem witness_HoldCommandHolds :
    Ready (member .run) ∧ ((member .run).entry .holdCmd).condition = false ∧ (member .run).posture = .run ∧
    ((member .run).entry .holdCmd).latched = false ∧ (member .run).line.holdTime = 0 ∧ Ready (member .hold) ∧
    (demanding (member .hold)).line.holdTime ≠ 0 ∧ Ready (demanding (member .hold)) ∧
    ((withEntry .holdCmd false true (member .hold)).entry .holdCmd).latched = true := by decide

/-- An unload record with n causes in its later-cause list. -/
def unloading (n : Nat) : State :=
  { member .unload with unloadRecord := some ⟨.stroke, .run, 0, 100, 100, List.replicate n .drift, 0, .pending⟩ }

theorem witness_UnloadCommandUnloads :
    Ready (member .run) ∧ ((member .run).entry .unloadCmd).condition = false ∧
    ((member .run).entry .unloadCmd).latched = false ∧ (member .run).line.inFlight .unload = false ∧
    Ready (unloading 7) ∧ (unloading 7).unloadRecord.map (fun r => r.later.length) = some 7 ∧
    (unloading 8).unloadRecord.map (fun r => r.later.length) = some 8 ∧
    ((withEntry .unloadCmd false true (member .hold)).entry .unloadCmd).latched = true := by decide

theorem witness_ResumeReturnsToRun :
    Ready (member .hold) ∧ (member .hold).posture = .hold ∧
    (∀ c ∈ Cause.all, classOf (member .hold).settings c = .hold → ((member .hold).entry c).latched = false) ∧
    ((withEntry .program false true (member .hold)).entry .program).latched = true ∧
    classOf (member .hold).settings .program = .hold := by decide

theorem witness_ClearEmptiesTheProgram :
    Ready (member .idle) ∧ (member .safe).posture = .safe ∧
    (∀ c ∈ Cause.all, c ≠ .drift →
      classOf (withEntry .drift false true (member .safe)).settings c = .unload ∨
        classOf (withEntry .drift false true (member .safe)).settings c = .safe →
      ((withEntry .drift false true (member .safe)).entry c).latched = false) ∧
    ((withEntry .stroke false true (member .safe)).entry .stroke).latched = true ∧
    classOf (member .safe).settings .stroke = .unload := by decide

/-- A queue of n segments, none in flight. -/
def queued (n : Nat) (s : State) : State :=
  { s with program := { s.program with queue := List.replicate n ⟨1, .dwell 5, false, false⟩ } }

theorem witness_AppendJoinsTheTail :
    Ready (queued 31 (member .run)) ∧ requestBody (.unknown 0#8 []) = none ∧
    requestBody (.dwell 0#32) = some (.dwell 0) ∧ (queued 31 (member .run)).program.queue.length < 32 ∧
    32 ≤ (queued 32 (member .hold)).program.queue.length ∧ (queued 31 (member .run)).program.flight = none ∧
    (flying (.dwell 5) (.dwell 0) 0).program.flight.isSome = true := by decide

theorem witness_ClampedSegmentLiesInRange :
    (member .idle).settings.floor ≤ (member .idle).settings.ceiling ∧ 1 ≤ (member .idle).settings.rampStepMax ∧
    ({ floor := 7, ceiling := 7, rampStepMax := 1 } : Settings).floor ≤
      ({ floor := 7, ceiling := 7, rampStepMax := 1 } : Settings).ceiling ∧
    ({ floor := 8, ceiling := 7 } : Settings).ceiling < ({ floor := 8, ceiling := 7 } : Settings).floor := by decide

theorem witness_FlushKeepsTheSegmentInFlight :
    Ready (flying (.dwell 5) (.dwell 0) 0) ∧ (flying (.dwell 5) (.dwell 0) 0).program.flight.isSome = true ∧
    (member .run).program.flight = none ∧ (member .run).posture = .run := by decide

/-! ## Hypotheses that can be met: acknowledgement and the other commands -/

theorem witness_AckActsByTheLatchMode :
    Ready (member .hold) ∧ (∀ c : Cause, ¬((19#8).toNat = c.kindCode ∧ (0#8).toNat = c.index)) ∧
    (13#8).toNat = Cause.stroke.kindCode ∧ (0#8).toNat = Cause.stroke.index ∧ (∀ ch, Cause.stroke ≠ .crack ch) ∧
    modeOf (member .hold).settings .stroke = .level ∧ modeOf (member .hold).settings .peerHold = .follow ∧
    modeOf (member .hold).settings .program = .edge ∧ classOf (member .hold).settings .program = .hold ∧
    ((withEntry .stroke true true (member .hold)).entry .stroke).latched = true ∧
    (withEntry .program false true (member .hold)).resumeRequired = false ∧
    (∀ d ∈ Cause.all, d ≠ .program → classOf (member .hold).settings d = .hold →
      ((withEntry .program false true (member .hold)).entry d).latched = false) ∧
    ((withEntry .inspect false true (withEntry .program false true (member .hold))).entry .inspect).latched = true ∧
    (demanding (withEntry .program false true (member .hold))).line.holdTime ≠ 0 := by
  refine ⟨by decide, ?_, by decide, by decide, ?_, by decide⟩
  · intro c
    cases c <;> simp [Cause.kindCode]
  · intro ch h
    cases h

/-- Crack channel 2 with its alarm latch set by a condition, its entry latched. -/
def alarmed (condition : Bool) (mode : Mode) : State :=
  withEntry (.crack 2) true true
    (cracked { enable := true, mode := mode } { alarm := { latched := true, condition := condition } } (member .run))

/-- The same channel masked, its CRACK entry clear. -/
def masked (condition : Bool) : State :=
  withEntry (.crack 2) false false
    (cracked { enable := true, mode := .level, mask := true } { alarm := { latched := true, condition := condition } }
      (member .run))

/-- In HOLD by the CRACK entry of the channel, of class HOLD. -/
def heldByCrack : State :=
  withEntry (.crack 2) true true
    { cracked { enable := true, mode := .edge, cls := .hold } { alarm := { latched := true } } (member .hold) with
      holdRecord := some ⟨.crack 2, 0, 0, 0, false⟩ }

theorem witness_AckOfCrackReachesTheAlarmLatch :
    Ready (alarmed true .level) ∧ crackLaw (alarmed true .level) ∧
    ((alarmed true .level).entry (.crack 2)).latched = true ∧
    (alarmed true .level).crack.channels[2].alarm.latched = true ∧
    (alarmed true .level).settings.crack[2].mode = .level ∧ (alarmed true .edge).settings.crack[2].mode = .edge ∧
    (alarmed false .level).crack.channels[2].alarm.condition = false ∧
    Ready (masked true) ∧ crackLaw (masked true) ∧ (masked false).settings.crack[2].mask = true ∧
    ((masked false).entry (.crack 2)).latched = false ∧ (masked false).crack.channels[2].alarm.condition = false ∧
    Ready heldByCrack ∧ crackLaw heldByCrack ∧ heldByCrack.posture = .hold ∧ heldByCrack.resumeRequired = false ∧
    (heldByCrack.entry (.crack 2)).latched = true ∧ heldByCrack.settings.crack[2].cls = .hold := by decide

theorem witness_AckAllAcknowledgesEveryEntry :
    Ready (alarmed true .level) ∧ crackLaw (alarmed true .level) ∧ Ready (withEntry .program false true (member .hold)) ∧
    crackLaw (withEntry .program false true (member .hold)) ∧
    (withEntry .program false true (member .hold)).resumeRequired = false := by decide

theorem witness_ZeroStartsTheNamedChannels :
    Ready (member .hold) ∧ (member .hold).posture = .hold ∧ (member .idle).posture = .idle := by decide

theorem witness_ClearExtremesEmptiesEveryPair :
    Ready (member .safe) ∧ (strained { enable := true } { band := .within } State.reset).settings.strain[7].enable = true ∧
    (strained { enable := true } { band := .within } State.reset).strain.channels[7].extremes = none ∧
    (0x800001#24).toInt ≠ -8388608 := by decide

theorem witness_ForgetRemovesTheNamedEntry :
    Ready (withPeers [peer 9 1] (member .run)) ∧ peerConditionLaw (withPeers [peer 9 1] (member .run)) ∧
    (∀ e ∈ (withPeers [peer 9 1] (member .run)).peers.entries, e.id ≠ (255#8).toNat) ∧
    (∃ e ∈ (withPeers [peer 9 1] (member .run)).peers.entries, e.id = (9#8).toNat) ∧
    (crowded 30 (withPeers [peer 9 1] (member .run))).link.notices.length ≤ 30 := by decide

theorem witness_AttentionFollowsTheNoticeQueue :
    Ready (crowded 8 (member .run)) ∧ (crowded 8 (member .run)).link.notices.length ≤ 8 ∧
    ¬(crowded 9 (member .run)).link.notices.length ≤ 8 := by decide

theorem witness_ReadsTakeAwayTheirOwnAlone : Ready (member .hold) ∧ (member .hold).posture = .hold := by decide

theorem witness_ResetLeavesTheStateAfterReset : (member .safe).link.response = none := by decide

/-! ## Hypotheses that can be met: the control period -/

theorem witness_RestingPeriodKeepsTheValveShut : State.reset.posture = .idle ∧ (inPosture .safe).posture = .safe := by
  decide

/-- A loop whose next control period meets both the following count and the valve saturation limit. -/
def straining (p : Posture) : State :=
  { member p with
    settings :=
      { (member p).settings with
        followingLimit := 99, followingCount := 3, valveSatLimit := 2, valveLimit := 1, integratorLimit := 0, kp := 4096 }
    servo := { (member p).servo with followCount := 2, satCount := 1 } }

/-- The same in RUN, paced. -/
def strainingPaced : State := { straining .run with program := { (straining .run).program with paced := true } }

theorem witness_StandingPeriodComputesTheLoop :
    ProgramStands (member .hold) ∧ loadFresh (member .hold) ∧ loopQuiet (member .hold) ∧
    (loopAfter (member .hold) (targetAt (member .hold) 0)).followCount < (member .hold).settings.followingCount ∧
    ProgramStands (straining .hold) ∧ loadFresh (straining .hold) ∧ (straining .hold).settings.valveSatClass = .hold ∧
    (straining .hold).settings.followingCount ≤
      (loopAfter (straining .hold) (targetAt (straining .hold) (straining .hold).program.setpoint)).followCount ∧
    (straining .hold).settings.valveSatLimit ≤
      (loopAfter (straining .hold) (targetAt (straining .hold) (straining .hold).program.setpoint)).satCount ∧
    ((straining .hold).entry .following).condition = false ∧ ((straining .hold).entry .following).latched = false ∧
    ((straining .hold).entry .valveSat).condition = false ∧ ((straining .hold).entry .valveSat).latched = false ∧
    loadFresh (withEntry .following true true (straining .hold)) ∧
    loadFresh (withEntry .following true true (withEntry .valveSat true true (member .hold))) := by decide

theorem witness_StandingPeriodComputesTheLoop_run :
    ProgramStands strainingPaced ∧ strainingPaced.posture = .run ∧ loadFresh strainingPaced ∧
    strainingPaced.settings.valveSatClass = .hold ∧
    strainingPaced.settings.followingCount ≤
      (loopAfter strainingPaced (targetAt strainingPaced strainingPaced.program.setpoint)).followCount ∧
    strainingPaced.settings.valveSatLimit ≤
      (loopAfter strainingPaced (targetAt strainingPaced strainingPaced.program.setpoint)).satCount ∧
    (strainingPaced.entry .following).condition = false ∧ (strainingPaced.entry .following).latched = false ∧
    (strainingPaced.entry .valveSat).condition = false ∧ (strainingPaced.entry .valveSat).latched = false ∧
    ((withEntry .following false true strainingPaced).entry .following).latched = true ∧
    loadFresh (withEntry .following false true strainingPaced) := by decide

/-- A station in UNLOAD with its unload setpoint and settle state. -/
def nearing (setpoint : Int) (settle : Settle) (count : Nat) : State :=
  { member .unload with
    servo := { (member .unload).servo with unloadSetpoint := setpoint, settle := settle, settleCount := count }
    settings := { (member .unload).settings with settleBand := 99 } }

/-- The settle test under way at the unload floor with the load at the edge of the settle band. -/
def settling (count : Nat) : State :=
  { nearing 0 .testing count with settings := { (nearing 0 .testing count).settings with settleBand := 100 } }

theorem witness_UnloadPeriodNearsTheUnloadFloor :
    loadFresh (nearing 21 .notStarted 0) ∧ loopQuiet (nearing 21 .notStarted 0) ∧
    (nearing 21 .notStarted 0).settings.unloadStep < ((nearing 21 .notStarted 0).settings.unloadFloor - 21).natAbs ∧
    ((nearing 20 .notStarted 0).settings.unloadFloor - 20).natAbs ≤ (nearing 20 .notStarted 0).settings.unloadStep ∧
    (nearing 20 .notStarted 0).settings.settleBand < ((nearing 20 .notStarted 0).loadNow - 0).natAbs ∧
    0 < (nearing 20 .notStarted 0).settings.settleTime ∧ loadFresh (member .unload) ∧ loopQuiet (member .unload) ∧
    (member .unload).servo.settle = .notStarted ∧
    ((member .unload).loadNow - (member .unload).settings.unloadFloor).natAbs ≤
      (member .unload).settings.settleBand ∧
    loadFresh (nearing 0 .testing 4) ∧ loopQuiet (nearing 0 .testing 4) ∧
    (nearing 0 .testing 4).servo.unloadSetpoint = (nearing 0 .testing 4).settings.unloadFloor ∧
    loadFresh (settling 4) ∧ loopQuiet (settling 4) ∧ (settling 4).servo.settle = .testing ∧
    ((settling 4).loadNow - 0).natAbs ≤ (settling 4).settings.settleBand ∧
    loadFresh (straining .unload) ∧ ((straining .unload).entry .following).condition = false ∧
    (straining .unload).settings.followingCount ≤
      (loopAfter (straining .unload) (straining .unload).settings.unloadFloor).followCount ∧
    1 ≤ (straining .unload).settings.followingCount ∧ 1 ≤ (straining .unload).settings.valveSatLimit := by decide

/-- A station with the inspect flag on every segment. -/
def inspected (s : State) : State :=
  { s with program := { s.program with queue := s.program.queue.map fun g => { g with inspect := true } } }

theorem witness_RunPeriodStepsTheSegmentInFlight :
    loadFresh (flying (.ramp 10 256) (.ramp 0) 2303) ∧ loopQuiet (flying (.ramp 10 256) (.ramp 0) 2303) ∧
    (flying (.ramp 10 256) (.ramp 0) 2303).program.paced = false ∧
    (flying (.ramp 10 256) (.ramp 0) 2303).program.starved = false ∧
    256 < (10 * 256 - (flying (.ramp 10 256) (.ramp 0) 2303).program.setpoint).natAbs ∧
    (10 * 256 - (flying (.ramp 10 256) (.ramp 0) 2304).program.setpoint).natAbs ≤ 256 ∧
    ((flying (.cycle 1000 5 2 2 false) (.cycle false 0 0 false) 0).program.counts - 1000).natAbs ≤
      (flying (.cycle 1000 5 2 2 false) (.cycle false 0 0 false) 0).settings.jumpTolerance ∧
    (flying (.cycle 1001 5 2 2 true) (.cycle false 0 0 false) 0).settings.jumpTolerance <
      ((flying (.cycle 1001 5 2 2 true) (.cycle false 0 0 false) 0).program.counts - 1001).natAbs ∧
    ((flying (.cycle 1001 5 2 2 true) (.cycle false 0 0 false) 0).entry .program).latched = false ∧
    ((flying (.cycle 1001 5 2 2 true) (.cycle false 0 0 false) 0).entry .drift).condition = false ∧
    InspectReady (inspected (flying (.dwell 5) (.dwell 4) 0)) ∧
    (inspected (flying (.dwell 5) (.dwell 4) 0)).program.queue = [⟨1, .dwell 5, true, false⟩] ∧
    (flying (.dwell 5) (.dwell 4) 0).strain.derateDemand = false := by decide

/-- A watched CYCLE at its last phase, with channel 7's drift record. -/
def closing (r : DriftRecord) (interrupted : Bool) : State :=
  { flying (.cycle 0 5 1 9 true) (.cycle true 3 0 interrupted) 0 with
    settings :=
      { (member .run).settings with
        referenceCycles := 4, strain := State.reset.settings.strain.set 7 { enable := true, driftWatch := true } }
    strain := { State.reset.strain with watched := some 1, drift := State.reset.strain.drift.set 7 r } }

theorem witness_CycleCloseWorksTheDriftRecords :
    loadFresh (closing {} false) ∧ (closing {} false).posture = .run ∧ (closing {} false).program.paced = false ∧
    (closing {} false).strain.derateDemand = false ∧ 4 * 1 ≤ 3 + 1 ∧
    watchedChannel (closing {} true).settings.strain[7] = true ∧ watchedChannel State.reset.settings.strain[8] = false ∧
    (closing { sum := 825, gathered := 2, cycle := some (409, 0) } false).strain.drift[7].gathered + 1 <
      (closing {} false).settings.referenceCycles ∧
    (closing { sum := 1234, gathered := 3, cycle := some (414, 0) } false).settings.referenceCycles ≤ 3 + 1 ∧
    (closing { state := .watching, reference := some 412, cycle := some (418, 0) } false).strain.drift[7].reference =
      some 412 ∧ State.reset.strain.drift[7].cycle = none := by decide

/-- A station whose stale counter stands at n, with no sample in this period. -/
def silent (n : Nat) (p : Posture) : State :=
  { member p with servo := { (member p).servo with stale := n, loadSeen := false } }

theorem witness_LoadStaleEntersSafe :
    (silent 4 .run).servo.load.isSome = true ∧ ((silent 4 .run).entry .loadStale).condition = false ∧
    ((silent 4 .run).entry .loadStale).latched = false ∧ (silent 4 .run).settings.staleLimit ≤ 4 + 1 ∧
    (silent 4 .run).posture = .run ∧ loadFresh (silent 3 .run) ∧
    (unloading 7).unloadRecord.map (fun r => r.later.length) = some 7 := by decide

theorem witness_SettleTimeExceededEndsTheUnload :
    loadFresh (nearing 0 .testing 9999) ∧ loopQuiet (nearing 0 .testing 9999) ∧
    (nearing 0 .testing 9999).servo.unloadSetpoint = (nearing 0 .testing 9999).settings.unloadFloor ∧
    (nearing 0 .testing 9999).settings.settleBand < ((nearing 0 .testing 9999).loadNow - 0).natAbs ∧
    (nearing 0 .testing 9999).settings.settleTime ≤ min ((nearing 0 .testing 9999).servo.settleCount + 1) 65535 ∧
    min ((nearing 0 .testing 9998).servo.settleCount + 1) 65535 < (nearing 0 .testing 9998).settings.settleTime := by
  decide

/-! ## Hypotheses that can be met: timers, inputs and samples -/

theorem witness_ReportPeriodAgesThePeers :
    State.reset.settings.stationId = 0 ∧ (member .run).settings.stationId ≠ 0 ∧ (member .run).breakDue = false ∧
    (withEntry (.interlock 2) true true (member .safe)).breakDue = true ∧
    inPacingSet 1 (peer 9 1) = true ∧ (member .run).settings.leadLimit ≠ 0 ∧ leadOver 131072#32 (peer 9 1) = 65536 ∧
    leadOver 81920#32 (peer 9 1) = 16384 ∧ ({} : Settings).leadLimit / 2 < ({} : Settings).leadLimit ∧
    ({ leadLimit := 0 } : Settings).leadLimit = 0 := by decide

theorem witness_ReportPeriodStepsTheTrim :
    (withPeers [peer 9 1] (member .run)).posture = .run ∧
    ((withPeers [peer 9 1] (member .run)).entry .peerHold).condition =
      peerHoldCondition 1 (agedEntries (member .run).settings [peer 9 1]) ∧
    ((withPeers [peer 9 1] (member .run)).entry .peerUnload).condition =
      peerUnloadCondition 1 (agedEntries (member .run).settings [peer 9 1]) ∧
    ((withPeers [peer 9 1] (member .run)).entry .peerLost).condition =
      peerLostCondition 1 (agedEntries (member .run).settings [peer 9 1]) ∧
    (agedEntries (member .run).settings [peer 9 1]).filter (inShareSet 1) ≠ [] := by decide

/-- Crack channel 2 with its window counts and limits. -/
def windowed (hits limit : Nat) : State :=
  cracked { enable := true, rateLimit := limit } { windowHits := hits, alarm := { latched := true, condition := true } }
    (member .run)

theorem witness_WindowExpiriesCloseTheirCounts :
    (windowed 5 5).settings.crack[2].rateLimit ≤ (windowed 5 5).crack.channels[2].windowHits ∧
    (windowed 4 5).crack.channels[2].windowHits < (windowed 4 5).settings.crack[2].rateLimit ∧
    (windowed 4 5).settings.crack[2].felicityLimit = 0 ∧ (windowed 4 5).crack.channels[2].alarm.condition = true := by
  decide

/-- A station with its host-silence timer about to run out. -/
def waiting (p : Posture) (cls : Machine.Class) : State :=
  { member p with
    link := { State.reset.link with silence := .running 0 }
    settings := { (member p).settings with hostSilentClass := cls } }

theorem witness_HostSilenceRaisesItsCause :
    (waiting .run .hold).link.silence = .running 0 ∧ ((waiting .run .hold).entry .hostSilent).condition = false ∧
    ((waiting .run .hold).entry .hostSilent).latched = false ∧ (waiting .run .hold).settings.hostSilentClass = .hold ∧
    (waiting .hold .unload).settings.hostSilentClass = .unload ∧ (waiting .safe .hold).posture = .safe ∧
    ∀ left, State.reset.link.silence ≠ .running left := by
  refine ⟨by decide, by decide, by decide, by decide, by decide, by decide, ?_⟩
  intro left h
  cases h

/-- A line's port with its debounce timer run out. -/
def debouncing (l : Fin 4) : State :=
  { member .run with ports := State.reset.ports.set l ⟨true, false, some 0⟩ }

theorem witness_InterlockLinesAreDebounced :
    State.reset.ports[3].inputOpen = false ∧ State.reset.ports[3].timer = none ∧
    (debouncing 2).ports[2].timer = some 0 ∧ (debouncing 2).settings.interlock[2].enable = true ∧
    (debouncing 2).ports[2].inputOpen = true ∧ ((debouncing 2).entry (.interlock 2)).condition = false ∧
    ((debouncing 2).entry (.interlock 2)).latched = false ∧ (debouncing 2).settings.interlock[2].hallStop = true ∧
    (debouncing 2).settings.stationId ≠ 0 ∧ (debouncing 2).settings.interlock[2].cls = .unload ∧
    (debouncing 1).settings.interlock[1].cls = .hold ∧ (debouncing 0).settings.interlock[0].cls = .safe ∧
    (debouncing 0).posture = .run := by decide

theorem witness_LoopSamplesAreTaken :
    (0x800000#24).toInt = -8388608 ∧ (0x800001#24).toInt ≠ -8388608 ∧ 1 ≤ State.reset.settings.staleLimit ∧
    (State.reset.entry .stroke).condition = false ∧ (member .run).posture = .run := by decide

/-- Channel 7 in a band, with its counts and its zeroing. -/
def banded (band : Band) (above : Nat) (z : Option Zeroing) : State :=
  strained { enable := true, scale := 65535, upperTrip := 1800, upperRelease := 1700, driftWatch := true }
    { band := band, aboveCount := above, zeroing := z } (member .run)

theorem witness_StrainSampleIsWorked :
    (banded .within 2 none).settings.strain[7].enable = true ∧ (0x7FFFFF#24).toInt ≠ -8388608 ∧
    (banded .within 2 none).strain.channels[7].band = .within ∧
    (banded .within 2 none).settings.strain[7].tripCount ≤
      min ((banded .within 2 none).strain.channels[7].aboveCount + 1) 15 ∧
    min ((banded .within 1 none).strain.channels[7].aboveCount + 1) 15 <
      (banded .within 1 none).settings.strain[7].tripCount ∧
    (banded .above 0 none).strain.channels[7].band = .above ∧ (banded .below 0 none).strain.channels[7].band = .below ∧
    (banded .within 0 (some ⟨62, 0⟩)).strain.channels[7].zeroing = some ⟨62, 0⟩ ∧
    (banded .within 0 (some ⟨63, 0⟩)).strain.channels[7].zeroing = some ⟨63, 0⟩ ∧
    (banded .within 0 none).settings.strain[7].driftWatch = true ∧ State.reset.strain.watched = none := by decide

theorem witness_StrainSampleIsWorked_fault :
    State.reset.settings.strain[31].enable = false ∧ (banded .within 0 none).settings.strain[7].enable = true ∧
    (0x800000#24).toInt = -8388608 := by decide

/-- Crack channel 2 enabled with threshold 45, HDT 4 and HLT 3, in a detector state. -/
def listening (d : Detector) : State :=
  cracked { enable := true, threshold := 45, hdt := 4, hlt := 3, burst := some 73, rateLimit := 1 } { detector := d }
    (member .run)

theorem witness_EnvelopeSampleMovesTheDetector :
    State.reset.settings.crack[0].enable = false ∧ (listening .quiet).settings.crack[2].enable = true ∧
    (listening .quiet).crack.channels[2].detector = .quiet ∧ min (44#8).toNat 100 < 45 ∧ 45 ≤ min (45#8).toNat 100 ∧
    (listening (.lockout 1)).crack.channels[2].detector = .lockout 1 ∧
    (listening (.lockout 2)).crack.channels[2].detector = .lockout 2 ∧
    (listening (.inHit ⟨0, 0, 0, 61, 1, 1, 3, 2, true⟩)).crack.channels[2].detector =
      .inHit ⟨0, 0, 0, 61, 1, 1, 3, 2, true⟩ ∧ (255#8 : Byte) ≠ 254#8 ∧
    (listening .faulted).crack.channels[2].detector = .faulted ∧
    2 + 1 < (listening .quiet).settings.crack[2].hdt ∧ 3 + 1 < 65535 := by decide

theorem witness_HitEndStoresTheHit :
    (listening (.inHit ⟨0, 280000, 300000, 73, 5, 3, 12, 3, true⟩)).settings.crack[2].enable = true ∧
    (listening (.inHit ⟨0, 280000, 300000, 73, 5, 3, 12, 3, true⟩)).crack.channels[2].detector =
      .inHit ⟨0, 280000, 300000, 73, 5, 3, 12, 3, true⟩ ∧
    min (28#8).toNat 100 < (listening .quiet).settings.crack[2].threshold ∧
    (listening .quiet).settings.crack[2].hdt ≤ 3 + 1 ∧ (28#8 : Byte) ≠ 255#8 ∧
    (State.reset.settings.felicityMinPeak : Int) ≤ 300000 ∧
    (280000 : Int) * 256 < State.reset.settings.felicityRatio * 300000 ∧
    (listening .quiet).settings.crack[2].burst = some 73 ∧
    (listening .quiet).crack.channels[2].windowHits + 1 = (listening .quiet).settings.crack[2].rateLimit ∧
    (listening .quiet).crack.fifo.length < 64 := by decide

/-- A hit of 65,534 samples, whose next sample above the threshold or soon after a crossing ends it truncated (R169). -/
theorem witness_HitEndStoresTheHit_truncated :
    (listening (.inHit ⟨0, 0, 0, 61, 1, 1, 65534, 0, false⟩)).settings.crack[2].enable = true ∧ 65535 ≤ 65534 + 1 ∧
    (listening .quiet).settings.crack[2].threshold ≤ min (45#8).toNat 100 ∧
    0 + 1 < (listening .quiet).settings.crack[2].hdt := by decide

/-! ## Hypotheses that can be met: the hall line -/

theorem witness_AttemptStartDrivesTheFirstPendingSlot :
    State.reset.line.tx ≠ .defer ∧ (deferring .unload).line.tx = .defer ∧
    (deferring .unload).line.unloadSlot.pending = some (⟨1, 0, .stroke⟩, {}) ∧
    (deferring .hold).line.unloadSlot.pending = none ∧
    (deferring .hold).line.holdSlot.pending = some (⟨1, 5, .program⟩, {}) ∧
    (deferring .report).line.holdSlot.pending = none ∧ (deferring .report).line.reportSlot = some ⟨15, 15⟩ ∧
    (deferring .report).posture = .run ∧ (unloading 0).posture = .unload ∧
    (unloading 0).unloadRecord = some ⟨.stroke, .run, 0, 100, 100, [], 0, .pending⟩ := by decide

theorem witness_ContentionEndsTheAttempt :
    (sending 15 14).line.tx = .sending ⟨.report, ⟨15, 14⟩, [], 0⟩ ∧ (sending 15 14).settings.stationId ≠ 0 ∧
    (sending 16 15).line.tx = .sending ⟨.report, ⟨16, 15⟩, [], 0⟩ ∧
    BitVec.ofNat 16 (((sending 15 14).line.generator.toNat * 25173 + 13849) % 65536) = 49005#16 := by decide

theorem witness_AttemptsWaitsAndBreaksEnd :
    (sending 1 0).line.tx = .sending ⟨.report, ⟨1, 0⟩, [], 0⟩ ∧
    ({ State.reset with line := { State.reset.line with tx := .backoff } } : State).line.tx = .backoff ∧
    ({ State.reset with line := { State.reset.line with tx := .breaking 40, wait := 1 } } : State).line.tx =
      .breaking 40 ∧
    ({ State.reset with line := { State.reset.line with tx := .breaking 40, wait := 1 } } : State).line.wait ≠ 0 := by
  decide

/-- A REPORT of group 1 that a station sends. -/
def reportOfGroup1 : ReportFields := reportOf (member .run)

/-- A table of 23 peers without the id 200. -/
def crowdedTable : State := withPeers ((List.range 23).map fun k => peer (k + 10) 1) (member .run)

/-- A table of 24 peers without the id 200, which was refused before. -/
def fullTable : State :=
  { member .run with peers := { State.reset.peers with
      entries := (List.range 24).map fun k => peer (k + 10) 1, refusals := 1, refusedId := some 200 } }

theorem witness_ReportUpdatesThePeerTable :
    Listens crowdedTable ∧ (200#8).toNat ≠ crowdedTable.settings.stationId ∧
    reportOfGroup1.group.toNat = crowdedTable.settings.group ∧
    (∀ e ∈ crowdedTable.peers.entries, e.id ≠ (200#8).toNat) ∧ crowdedTable.peers.entries.length < 24 ∧
    crowdedTable.peers.entries.find? (fun x => x.id = (10#8).toNat) = some (peer 10 1) ∧
    (peer 10 1).chatterCount < crowdedTable.settings.chatterLimit ∧
    (withPeers [{ peer 10 1 with chatterCount := 12 }] (member .run)).settings.chatterLimit ≤ 12 ∧
    Listens fullTable ∧ 24 ≤ fullTable.peers.entries.length ∧
    (∀ e ∈ fullTable.peers.entries, e.id ≠ (200#8).toNat) ∧ fullTable.peers.refusedId = some 200 ∧
    crowdedTable.peers.refusedId ≠ some 200 ∧ reportOfGroup1.group.toNat ≠ (peer 10 2).group ∧
    ({ reportOfGroup1 with group := 2#8 } : ReportFields).group.toNat ≠ crowdedTable.settings.group ∧
    crowdedTable.posture = .run := by decide

/-- A station in RUN that leads its one pacing peer by 60, with a lead limit. -/
def leading (limit : Nat) (paced : Bool) : State :=
  let s := withPeers [{ peer 9 1 with posture := .run, progress := (member .run).program.progress - 60 }] (member .run)
  { s with settings := { s.settings with leadLimit := limit }, program := { s.program with paced := paced } }

/-- The cases of R118, in states whose peer conditions are those of the table: an aging pass keeps the station in RUN.
-/
theorem witness_Paces :
    (leading 59 false).posture = .run ∧ peerConditionLaw (leading 59 false) ∧
    (∃ e ∈ (leading 59 false).peers.entries, inPacingSet 1 e = true ∧
      (59 : Int) < leadOver (leading 59 false).program.progress e) ∧
    (∀ e ∈ (leading 60 true).peers.entries, leadOver (leading 60 true).program.progress e ≤ 60) ∧
    (∃ e ∈ (leading 60 true).peers.entries, inPacingSet 1 e = true ∧
      ((60 / 2 : Nat) : Int) < leadOver (leading 60 true).program.progress e) ∧
    (∀ e ∈ (leading 120 true).peers.entries, leadOver (leading 120 true).program.progress e ≤ ((120 / 2 : Nat) : Int)) ∧
    (leading 59 false).settings.group = 1 := by decide

/-- A receiver that waits for idle bit times. -/
def withWaitingReceiver (s : State) : State := { s with line := { s.line with rx := .waiting } }

theorem witness_NoticeFramesReachTheirEntry :
    Listens crowdedTable ∧ (10#8 : Byte) ≠ 0#8 ∧ (10#8).toNat ≠ crowdedTable.settings.stationId ∧
    crowdedTable.peers.entries.find? (fun x => x.id = (10#8).toNat) = some (peer 10 1) ∧ (1#8).toNat = (peer 10 1).group ∧
    (∀ e ∈ crowdedTable.peers.entries, e.id ≠ (200#8).toNat) ∧ (4#8).toNat = crowdedTable.settings.stationId ∧
    (crowdedTable.entry .idClash).condition = false ∧ (crowdedTable.entry .idClash).latched = false ∧
    crowdedTable.posture = .run ∧ (2#8).toNat ≠ (peer 10 1).group ∧
    (withWaitingReceiver (member .run)).line.driving = false ∧ (withWaitingReceiver (member .run)).line.rx = .waiting ∧
    [0x6C#8] ≠ [] := by decide

theorem witness_BrokenFramesSetTheirFlag :
    (sending 1 0).line.driving = true ∧ Listens (member .run) ∧
    frameLength [0x6C#8, 0x32#8, 0x05#8, 0x04#8, 0x01#8, 0x00#8, 0x05#8, 0x06#8, 0x64#8, 0x72#8] = some 10 ∧
    judgeFrame [0x6C#8, 0x32#8, 0x05#8, 0x04#8, 0x01#8, 0x00#8, 0x05#8, 0x06#8, 0x64#8, 0x72#8] = .badCrc ∧
    frameLength (sealed [0x6C#8, 0x34#8, 0x05#8, 0x00#8]) = some 6 ∧
    judgeFrame (sealed [0x6C#8, 0x34#8, 0x05#8, 0x00#8]) = .badFormat ∧
    frameLength [0x6C#8] = none := by decide

theorem witness_ReceiverEventsActOnTheLine :
    (member .run).line.driving = false ∧ (member .run).line.rx = .hunting ∧
    ({ State.reset with line := { State.reset.line with rx := .waiting } } : State).line.rx = .waiting ∧
    ((member .run).entry .hallBreak).condition = false ∧ ((member .run).entry .hallBreak).latched = false ∧
    (member .run).posture = .run := by decide

/-! ## Hypotheses that can be met: the laws, in RUN and with a command that takes its effect -/

theorem witness_EveryStepKeepsTheCauseLaw :
    causeLaw (member .run) ∧ holdLaw (member .run) ∧
    causeLaw (withEntry .program false true (member .hold)) ∧ holdLaw (withEntry .program false true (member .hold)) ∧
    (after (step { member .run with pending := [.hold] })).posture = .hold := by decide

theorem witness_EveryStepKeepsRecordsLoopAndTrim :
    recordLaw (unloading 8) ∧ demandLaw (unloading 8) ∧ loopLaw (member .run) ∧ trimLaw (member .run) ∧
    (after (step { member .run with pending := [.unload] })).posture = .unload := by decide

theorem witness_EveryStepKeepsTheQueues :
    programLaw (flying (.ramp 10 256) (.ramp 0) 2304) ∧ noticeLaw (crowded 31 (member .run)) ∧ hitLaw (member .run) := by decide

theorem witness_EveryStepKeepsTheQueues_line : lineLaw (sending 16 15) ∧ lineLaw (deferring .report) := by decide

theorem witness_EveryStepKeepsThePeerTable : tableLaw crowdedTable ∧ peerConditionLaw crowdedTable := by decide

theorem witness_EveryStepKeepsSettingsAndMeasuringCauses_settings : settingsLaw (member .run) := by decide

theorem witness_EveryStepKeepsSettingsAndMeasuringCauses :
    strainLaw (member .run) ∧ crackLaw (alarmed true .level) ∧ derateLaw (member .run) := by decide

end Sys2Proof.Tests
end

/-! ## The posture controller's operations, field by field

What Laws/ does not yet say of a posture change, a latch and the hall-stop break: the records, the loop, the trim and
the hold time they leave. -/

namespace Sys2Proof.Postures

open Sys2Proof Sys2Proof.Machine Sys2Proof.Laws

section Line
variable (l : Line)

@[simp] theorem settleTx_holdTime (id : Nat) : (settleTx id l).holdTime = l.holdTime := by rw [settleTx_eq]

@[simp] theorem settleTx_demandCause (id : Nat) : (settleTx id l).demandCause = l.demandCause := by rw [settleTx_eq]

@[simp] theorem settleTx_holdSlot (id : Nat) : (settleTx id l).holdSlot = l.holdSlot := by rw [settleTx_eq]

@[simp] theorem settleTx_unloadSlot (id : Nat) : (settleTx id l).unloadSlot = l.unloadSlot := by rw [settleTx_eq]

@[simp] theorem endAttempt_holdTime (n : SlotName) (k : Option SlotCounts) :
    (endAttempt n k l).holdTime = l.holdTime := by cases n <;> rfl

@[simp] theorem abandonAttempt_holdTime (f : Flight) : (abandonAttempt f l).holdTime = l.holdTime := by
  unfold abandonAttempt
  split
  · rfl
  · split <;> simp

@[simp] theorem startBreak_holdTime : (startBreak l).holdTime = l.holdTime := by
  unfold startBreak
  split <;> simp

/-- A break that is asked for is being driven (R88). -/
theorem startBreak_breaks : ∃ b, (startBreak l).tx = .breaking b := by
  unfold startBreak
  split
  · exact ⟨_, ‹_›⟩
  · exact ⟨0, rfl⟩
  · exact ⟨0, rfl⟩

end Line

section
variable (s : State)

/-- The hall-stop break is the line's alone (R12, R88). -/
theorem askBreak_eq : askBreak s = { s with line := (askBreak s).line } := by unfold askBreak; split <;> rfl

@[simp] theorem askBreak_time : (askBreak s).time = s.time := by rw [askBreak_eq]
@[simp] theorem askBreak_settings : (askBreak s).settings = s.settings := by rw [askBreak_eq]
@[simp] theorem askBreak_posture : (askBreak s).posture = s.posture := by rw [askBreak_eq]
@[simp] theorem askBreak_holdRecord : (askBreak s).holdRecord = s.holdRecord := by rw [askBreak_eq]
@[simp] theorem askBreak_unloadRecord : (askBreak s).unloadRecord = s.unloadRecord := by rw [askBreak_eq]
@[simp] theorem askBreak_program : (askBreak s).program = s.program := by rw [askBreak_eq]
@[simp] theorem askBreak_servo : (askBreak s).servo = s.servo := by rw [askBreak_eq]
@[simp] theorem askBreak_peers : (askBreak s).peers = s.peers := by rw [askBreak_eq]
@[simp] theorem askBreak_link : (askBreak s).link = s.link := by rw [askBreak_eq]
@[simp] theorem askBreak_entry (d : Cause) : (askBreak s).entry d = s.entry d := by rw [askBreak_eq]; rfl

@[simp] theorem askBreak_holdTime : (askBreak s).line.holdTime = s.line.holdTime := by
  unfold askBreak
  split
  · rfl
  · exact startBreak_holdTime s.line

section
variable (p : Posture) (c : Option Cause) (o : Option UnloadOutcome)

@[simp] theorem changePosture_time : (changePosture p c o s).time = s.time := rfl
@[simp] theorem changePosture_settings : (changePosture p c o s).settings = s.settings := rfl
@[simp] theorem changePosture_holdRecord : (changePosture p c o s).holdRecord = s.holdRecord := rfl
@[simp] theorem changePosture_unloadRecord : (changePosture p c o s).unloadRecord = s.unloadRecord := rfl
@[simp] theorem changePosture_servo : (changePosture p c o s).servo = s.servo := rfl
@[simp] theorem changePosture_line : (changePosture p c o s).line = s.line := rfl
@[simp] theorem changePosture_peers : (changePosture p c o s).peers = s.peers := rfl
@[simp] theorem changePosture_program : (changePosture p c o s).program =
    if s.posture = .run ∧ p ≠ .run then pauseProgram s.program else s.program := rfl

end

/-- Taking a segment into flight is the program unit's alone (R34). -/
theorem takeIntoFlight_eq : takeIntoFlight s = { s with program := (takeIntoFlight s).program } := by
  unfold takeIntoFlight
  split
  · split <;> rfl
  · rfl

@[simp] theorem takeIntoFlight_settings : (takeIntoFlight s).settings = s.settings := by rw [takeIntoFlight_eq]
@[simp] theorem takeIntoFlight_holdRecord : (takeIntoFlight s).holdRecord = s.holdRecord := by rw [takeIntoFlight_eq]
@[simp] theorem takeIntoFlight_unloadRecord : (takeIntoFlight s).unloadRecord = s.unloadRecord := by
  rw [takeIntoFlight_eq]
@[simp] theorem takeIntoFlight_servo : (takeIntoFlight s).servo = s.servo := by rw [takeIntoFlight_eq]
@[simp] theorem takeIntoFlight_line : (takeIntoFlight s).line = s.line := by rw [takeIntoFlight_eq]
@[simp] theorem takeIntoFlight_peers : (takeIntoFlight s).peers = s.peers := by rw [takeIntoFlight_eq]
@[simp] theorem takeIntoFlight_link : (takeIntoFlight s).link = s.link := by rw [takeIntoFlight_eq]

/-- The starved test touches the program unit and the notices (R43). -/
theorem starvedTest_eq : starvedTest s =
    { s with program := (starvedTest s).program,
             link := { s.link with notices := (starvedTest s).link.notices } } := by
  unfold starvedTest
  split <;> rfl

@[simp] theorem starvedTest_holdRecord : (starvedTest s).holdRecord = s.holdRecord := by rw [starvedTest_eq]
@[simp] theorem starvedTest_unloadRecord : (starvedTest s).unloadRecord = s.unloadRecord := by rw [starvedTest_eq]
@[simp] theorem starvedTest_servo : (starvedTest s).servo = s.servo := by rw [starvedTest_eq]
@[simp] theorem starvedTest_line : (starvedTest s).line = s.line := by rw [starvedTest_eq]
@[simp] theorem starvedTest_peers : (starvedTest s).peers = s.peers := by rw [starvedTest_eq]

@[simp] theorem starvedTest_flight : (starvedTest s).program.flight = s.program.flight := by
  unfold starvedTest; split <;> rfl

/-! ### The four postures entered -/

section
variable (k : Option Cause)

@[simp] theorem enterRun_settings : (enterRun k s).settings = s.settings := (enterRun_keeps k s).settings
@[simp] theorem enterRun_holdRecord : (enterRun k s).holdRecord = s.holdRecord := by simp [enterRun]
@[simp] theorem enterRun_unloadRecord : (enterRun k s).unloadRecord = s.unloadRecord := by simp [enterRun]
@[simp] theorem enterRun_servo : (enterRun k s).servo = s.servo := by simp [enterRun]
@[simp] theorem enterRun_peers : (enterRun k s).peers = s.peers := by simp [enterRun]
@[simp] theorem enterRun_line : (enterRun k s).line = { s.line with holdTime := 0, demandCause := none } := by
  simp [enterRun, dropDemand]
@[simp] theorem enterRun_entry (d : Cause) : (enterRun k s).entry d = s.entry d := by
  simp [State.entry]

end

section
variable (c : Cause)

@[simp] theorem enterHold_settings : (enterHold c s).settings = s.settings := rfl
@[simp] theorem enterHold_holdRecord :
    (enterHold c s).holdRecord = some ⟨c, s.time, s.program.counts, s.loadNow, decide (c ≠ .peerHold)⟩ := rfl
@[simp] theorem enterHold_unloadRecord : (enterHold c s).unloadRecord = s.unloadRecord := rfl
@[simp] theorem enterHold_servo : (enterHold c s).servo = s.servo := rfl
@[simp] theorem enterHold_line : (enterHold c s).line = s.line := rfl
@[simp] theorem enterHold_peers : (enterHold c s).peers = s.peers := rfl
@[simp] theorem enterHold_entry (d : Cause) : (enterHold c s).entry d = s.entry d := rfl

@[simp] theorem enterUnload_settings : (enterUnload c s).settings = s.settings := rfl
@[simp] theorem enterUnload_holdRecord : (enterUnload c s).holdRecord = s.holdRecord := rfl
@[simp] theorem enterUnload_unloadRecord : (enterUnload c s).unloadRecord =
    some ⟨c, s.posture, s.time, s.servo.target, s.loadNow, [], 0, .pending⟩ := rfl
@[simp] theorem enterUnload_servo : (enterUnload c s).servo =
    { s.servo with unloadSetpoint := s.servo.target, settle := .notStarted, settleCount := 0 } := rfl
@[simp] theorem enterUnload_peers : (enterUnload c s).peers = s.peers := rfl
@[simp] theorem enterUnload_entry (d : Cause) : (enterUnload c s).entry d = s.entry d := rfl
@[simp] theorem enterUnload_holdTime : (enterUnload c s).line.holdTime = 0 := by
  simp [enterUnload, placeUnloadNotice]

end

section
variable (k : Option Cause) (o : Option UnloadOutcome)

@[simp] theorem enterSafe_settings : (enterSafe k o s).settings = s.settings := rfl
@[simp] theorem enterSafe_holdRecord : (enterSafe k o s).holdRecord = s.holdRecord := rfl
@[simp] theorem enterSafe_unloadRecord : (enterSafe k o s).unloadRecord = s.unloadRecord := rfl
@[simp] theorem enterSafe_servo : (enterSafe k o s).servo = restServo s.servo := rfl
@[simp] theorem enterSafe_peers : (enterSafe k o s).peers = { s.peers with trim := 0 } := rfl
@[simp] theorem enterSafe_holdTime : (enterSafe k o s).line.holdTime = 0 := rfl

@[simp] theorem endUnload_settings (o : UnloadOutcome) : (endUnload k o s).settings = s.settings := rfl
@[simp] theorem endUnload_holdRecord (o : UnloadOutcome) : (endUnload k o s).holdRecord = s.holdRecord := rfl
@[simp] theorem endUnload_unloadRecord (o : UnloadOutcome) :
    (endUnload k o s).unloadRecord = s.unloadRecord.map fun r => { r with outcome := o } := rfl
@[simp] theorem endUnload_servo (o : UnloadOutcome) : (endUnload k o s).servo = restServo s.servo := rfl
@[simp] theorem endUnload_peers (o : UnloadOutcome) : (endUnload k o s).peers = { s.peers with trim := 0 } := rfl
@[simp] theorem endUnload_holdTime (o : UnloadOutcome) : (endUnload k o s).line.holdTime = 0 := rfl

end

/-! ### The hold demand -/

/-- The hold demand is the line's alone (R121, R122). -/
theorem reviseHoldDemand_eq (c : Cause) :
    reviseHoldDemand c s = { s with line := (reviseHoldDemand c s).line } := by
  unfold reviseHoldDemand
  split
  · split <;> rfl
  · split
    · rfl
    · split <;> rfl

section
variable (c : Cause)

@[simp] theorem reviseHoldDemand_settings : (reviseHoldDemand c s).settings = s.settings := by rw [reviseHoldDemand_eq]
@[simp] theorem reviseHoldDemand_holdRecord : (reviseHoldDemand c s).holdRecord = s.holdRecord := by
  rw [reviseHoldDemand_eq]
@[simp] theorem reviseHoldDemand_unloadRecord : (reviseHoldDemand c s).unloadRecord = s.unloadRecord := by
  rw [reviseHoldDemand_eq]
@[simp] theorem reviseHoldDemand_program : (reviseHoldDemand c s).program = s.program := by rw [reviseHoldDemand_eq]
@[simp] theorem reviseHoldDemand_servo : (reviseHoldDemand c s).servo = s.servo := by rw [reviseHoldDemand_eq]
@[simp] theorem reviseHoldDemand_peers : (reviseHoldDemand c s).peers = s.peers := by rw [reviseHoldDemand_eq]
@[simp] theorem reviseHoldDemand_link : (reviseHoldDemand c s).link = s.link := by rw [reviseHoldDemand_eq]
@[simp] theorem reviseHoldDemand_entry (d : Cause) : (reviseHoldDemand c s).entry d = s.entry d := by
  rw [reviseHoldDemand_eq]; rfl

/-- The hold time a revision leaves: a standing demand stays as it is, a new one is the renew time (R121). -/
theorem reviseHoldDemand_holdTime : (reviseHoldDemand c s).line.holdTime =
    if s.posture = .hold ∧ s.ownHoldLatched = true then
      if s.line.holdTime = 0 then s.settings.holdRenewTime else s.line.holdTime
    else 0 := by
  unfold reviseHoldDemand
  split
  · split
    · simp [placeHoldNotice]
    · rfl
  · split
    · assumption
    · split
      · simp [placeHoldNotice]
      · rfl

end

end

/-! ### A latch taken apart -/

/-- A latch before its posture change: the entry written with its snapshot, the notice handed over, the hall-stop break
asked for (R10, R11, R12). -/
def latchMarked (c : Cause) (s : State) : State :=
  let marked := setEntry c { s.entry c with latched := true, ackPending := false, snapshot := some (snapshotOf s) } s
  let noticed := pushNotice (.causeLatched c (classOf s.settings c)) marked
  if hallStopOf s.settings c then askBreak noticed else noticed

theorem latch_eq (c : Cause) (s : State) : latch c s =
    if classOf s.settings c = .hold then
      reviseHoldDemand c (postureOnLatch c (classOf s.settings c) (latchMarked c s))
    else postureOnLatch c (classOf s.settings c) (latchMarked c s) := rfl

section
variable (c : Cause) (s : State)

@[simp] theorem latchMarked_time : (latchMarked c s).time = s.time := by unfold latchMarked; simp only; split <;> simp
@[simp] theorem latchMarked_settings : (latchMarked c s).settings = s.settings := by
  unfold latchMarked; simp only; split <;> simp
@[simp] theorem latchMarked_posture : (latchMarked c s).posture = s.posture := by
  unfold latchMarked; simp only; split <;> simp
@[simp] theorem latchMarked_holdRecord : (latchMarked c s).holdRecord = s.holdRecord := by
  unfold latchMarked; simp only; split <;> simp
@[simp] theorem latchMarked_unloadRecord : (latchMarked c s).unloadRecord = s.unloadRecord := by
  unfold latchMarked; simp only; split <;> simp
@[simp] theorem latchMarked_program : (latchMarked c s).program = s.program := by
  unfold latchMarked; simp only; split <;> simp
@[simp] theorem latchMarked_servo : (latchMarked c s).servo = s.servo := by
  unfold latchMarked; simp only; split <;> simp
@[simp] theorem latchMarked_peers : (latchMarked c s).peers = s.peers := by
  unfold latchMarked; simp only; split <;> simp
@[simp] theorem latchMarked_holdTime : (latchMarked c s).line.holdTime = s.line.holdTime := by
  unfold latchMarked; simp only; split <;> simp
@[simp] theorem latchMarked_loadNow : (latchMarked c s).loadNow = s.loadNow := by simp [State.loadNow]

/-- The entry that latches is written, and no other (R10). -/
theorem latchMarked_entry (d : Cause) : (latchMarked c s).entry d =
    if d = c then { s.entry c with latched := true, ackPending := false, snapshot := some (snapshotOf s) }
    else s.entry d := by
  have h : (latchMarked c s).entry d =
      (setEntry c
        { s.entry c with latched := true, ackPending := false, snapshot := some (snapshotOf s) } s).entry d := by
    unfold latchMarked
    simp only
    split
    · rw [askBreak_entry]; rfl
    · rfl
  rw [h, entry_setEntry]
  simp only [eq_comm]

end

/-- Everything a latch can do to the posture, by class and posture (R13, R17, R19). -/
theorem postureOnLatch_cases (c : Cause) (cls : Machine.Class) (s : State) :
    (postureOnLatch c cls s = s ∧
      (s.posture = .idle ∨ s.posture = .safe ∨ cls = .report ∨
        (cls = .hold ∧ (s.posture = .unload ∨ s.posture = .hold ∧ c = .peerHold)))) ∨
    (cls = .hold ∧ s.posture = .run ∧ postureOnLatch c cls s = enterHold c s) ∨
    (cls = .hold ∧ s.posture = .hold ∧ postureOnLatch c cls s = requireResume s) ∨
    (cls = .unload ∧ (s.posture = .run ∨ s.posture = .hold) ∧ postureOnLatch c cls s = enterUnload c s) ∨
    (cls = .unload ∧ s.posture = .unload ∧ c ≠ .following ∧ postureOnLatch c cls s = appendLater c s) ∨
    ((cls = .safe ∨ c = .following) ∧ s.posture = .unload ∧
      postureOnLatch c cls s = endUnload (some c) .incomplete (appendLater c s)) ∨
    (cls = .safe ∧ (s.posture = .run ∨ s.posture = .hold) ∧
      postureOnLatch c cls s = enterSafe (some c) none (setOutcome .incomplete (writeUnloadRecord c s))) := by
  cases cls <;> cases hp : s.posture <;> simp only [postureOnLatch, hp, reduceCtorEq, true_and, and_true, false_or,
    or_false, or_true, true_or, false_and, and_false, and_self]
  · by_cases hc : c = .peerHold <;> simp [hc]
  · by_cases hc : c = .following <;> simp [hc]

end Sys2Proof.Postures

/-! ## The moves of a step

Every step is a run of a few moves, as far as the postures, the cause table, the two records, the hold demand, the
loop's control values and the trim go. Each law about these is shown for each move once. -/

namespace Sys2Proof.Postures

open Sys2Proof Sys2Proof.Machine Sys2Proof.Laws Sys2Proof.Safety

/-- Nothing that the laws of postures, causes, records, hold demand, loop and trim read has changed. -/
structure Quiet (s t : State) : Prop where
  posture : t.posture = s.posture
  causes : t.causes = s.causes
  holdRecord : t.holdRecord = s.holdRecord
  unloadRecord : t.unloadRecord = s.unloadRecord
  holdTime : t.line.holdTime = s.line.holdTime
  trim : t.peers.trim = s.peers.trim
  valve : t.servo.valve = s.servo.valve
  integrator : t.servo.integrator = s.servo.integrator
  satDir : t.servo.satDir = s.servo.satDir
  satCount : t.servo.satCount = s.servo.satCount
  followCount : t.servo.followCount = s.servo.followCount
  classes : ∀ c, classOf t.settings c = classOf s.settings c
  holdRenewTime : t.settings.holdRenewTime = s.settings.holdRenewTime
  valveLimit : t.settings.valveLimit = s.settings.valveLimit
  integratorLimit : t.settings.integratorLimit = s.settings.integratorLimit
  trimLimit : t.settings.trimLimit = s.settings.trimLimit

theorem Quiet.refl (s : State) : Quiet s s := by constructor <;> intros <;> rfl

theorem Quiet.entry {s t : State} (h : Quiet s t) (c : Cause) : t.entry c = s.entry c := by
  unfold State.entry; rw [h.causes]

/-- One piece of work on the cause table. `fall` is the clearing of an entry whose condition is stored with it, and HOLD
exit follows it where `exit` asks for it. -/
inductive CauseWork (exit : Bool) : State → State → Prop
  | quiet {s t : State} : Quiet s t → CauseWork exit s t
  | store {s : State} (c : Cause) (e : CauseEntry) : e.latched = (s.entry c).latched →
      (c = .peerHold → e.condition = e.latched) → CauseWork exit s (setEntry c e s)
  | rise {s : State} (c : Cause) : CauseWork exit s (latch c (setEntry c { s.entry c with condition := true } s))
  | fail {s : State} (c : Cause) : s.posture = .unload →
      CauseWork exit s (endUnload (some c) .incomplete (appendLater c s))
  | fall {s : State} (k : Option Cause) (c : Cause) (v : Bool) : (c = .peerHold → v = false) →
      CauseWork exit s (clearEntry exit k c (setEntry c { s.entry c with condition := v } s))

/-- One move of the station. -/
inductive Move : State → State → Prop
  | work {s t : State} : CauseWork true s t → Move s t
  | acknowledged {s : State} (m : State) : Relation.ReflTransGen (CauseWork false) s m → Move s (holdExit none m)
  | settings {s : State} (st : Settings) : s.posture = .idle → Move s { s with settings := st }
  | loop {s : State} : s.posture ≠ .idle → s.posture ≠ .safe →
      Move s { s with servo := loopStages s.settings s.loadNow s.servo }
  | shut {s : State} : s.posture = .idle ∨ s.posture = .safe → Move s { s with servo := { s.servo with valve := 0 } }
  | settled {s : State} (o : UnloadOutcome) : Move s (endUnload none o s)
  | trim {s : State} : Move s (stepTrim s)
  | start {s : State} : s.posture = .idle → startCheck s = none → Move s (startStation s)
  | resume {s : State} : s.posture = .hold → s.holdLatched = false → Move s (enterRun none s)
  | clear {s : State} : s.posture = .idle ∨ s.posture = .safe → Move s (clearStation s)
  | reset {s : State} : Move s (resetStation s)

/-- A run of moves. -/
abbrev Moves : State → State → Prop := Relation.ReflTransGen Move

/-! ### Reports and acknowledgements are work on the cause table -/

theorem setEntry_entry_self (c : Cause) (s : State) : setEntry c (s.entry c) s = s := by
  simp [setEntry, State.entry]

theorem reportWith_work (exit : Bool) (c : Cause) (v : Bool) (s : State) :
    Relation.ReflTransGen (CauseWork exit) s (reportWith exit c v s) := by
  have store : (c = .peerHold → v = (s.entry c).latched) →
      CauseWork exit s (setEntry c { s.entry c with condition := v } s) := fun h => .store c _ rfl h
  unfold reportWith
  split
  · exact .refl
  · cases v with
    | true =>
      simp only [if_true]
      unfold onRise
      rw [entry_setEntry_same]
      split
      next hl =>
        have stored := store fun _ => hl.symm
        split
        next hf => exact .tail (.single stored) (.fail c hf.2)
        · exact .single stored
      · exact .single (.rise c)
    | false =>
      simp only [Bool.false_eq_true, if_false]
      have falls : ∀ k, CauseWork exit s (clearEntry exit k c (setEntry c { s.entry c with condition := false } s)) :=
        fun k => .fall k c false fun _ => rfl
      unfold onFall
      simp only [setEntry_settings, entry_setEntry_same]
      split
      next hm => exact .single (store fun h => by subst h; cases hm)
      next hm =>
        split
        · exact .single (falls _)
        · exact .single (store fun h => by subst h; cases hm)
      · split
        · exact .single (falls _)
        next hl => exact .single (store fun _ => by simpa using hl)

theorem ackEntry_work (exit : Bool) (c : Cause) (s : State) : CauseWork exit s (ackEntry exit c s) := by
  have still : CauseWork exit s s := .quiet (.refl s)
  have clears : c ≠ .peerHold → CauseWork exit s (clearEntry exit none c s) := fun h => by
    have := CauseWork.fall (exit := exit) (s := s) none c (s.entry c).condition fun k => absurd k h
    rwa [setEntry_entry_self] at this
  unfold ackEntry
  split
  · split
    next hm => exact clears fun h => by subst h; cases hm
    next hm =>
      have hc : c ≠ .peerHold := fun h => by subst h; cases hm
      split
      · exact .store c _ rfl fun h => absurd h hc
      · exact clears hc
    · exact still
  · exact still

theorem report_moves (c : Cause) (v : Bool) (s : State) : Moves s (report c v s) :=
  Relation.ReflTransGen.lift id (fun _ _ => Move.work) _ _ (reportWith_work true c v s)

/-! ### What is latched -/

theorem anyLatched_iff (s : State) (test : Cause → Bool) :
    s.anyLatched test = true ↔ ∃ c, test c = true ∧ (s.entry c).latched = true := by
  simp [State.anyLatched, Cause.mem_all]

theorem anyLatched_congr {s t : State} {f g : Cause → Bool}
    (h : ∀ c, f c = true ∨ g c = true → (t.entry c).latched = (s.entry c).latched) (hf : ∀ c, f c = g c) : t.anyLatched f = s.anyLatched g := by
  rw [Bool.eq_iff_iff, anyLatched_iff, anyLatched_iff]
  constructor
  · rintro ⟨c, hc, hl⟩; exact ⟨c, hf c ▸ hc, h c (.inl hc) ▸ hl⟩
  · rintro ⟨c, hc, hl⟩; exact ⟨c, hf c ▸ hc, (h c (.inr hc)).symm ▸ hl⟩

theorem holdLatched_iff (s : State) :
    s.holdLatched = true ↔ ∃ c, classOf s.settings c = .hold ∧ (s.entry c).latched = true := by
  simp [State.holdLatched, anyLatched_iff]

theorem holdLatched_false_iff (s : State) :
    s.holdLatched = false ↔ ∀ c, classOf s.settings c = .hold → (s.entry c).latched = false := by
  rw [← Bool.not_eq_true, holdLatched_iff]; simp

theorem ownHoldLatched_iff (s : State) : s.ownHoldLatched = true ↔
    ∃ c, (classOf s.settings c = .hold ∧ c ≠ .peerHold) ∧ (s.entry c).latched = true := by
  simp [State.ownHoldLatched, anyLatched_iff]

/-- Whether an own HOLD-class entry is latched rests on the latches of the HOLD-class entries alone. -/
theorem ownHoldLatched_congr {s t : State} (hc : ∀ c, classOf t.settings c = classOf s.settings c)
    (hl : ∀ c, classOf s.settings c = .hold → (t.entry c).latched = (s.entry c).latched) :
    t.ownHoldLatched = s.ownHoldLatched :=
  anyLatched_congr
    (fun c h => hl c (by simp only [hc, Bool.and_eq_true, decide_eq_true_eq, or_self] at h; exact h.1)) (by simp [hc])

/-! ### The law of causes against postures (R13) -/

/-- An entry of class cls may stand latched in posture p (R13). -/
abbrev fits (p : Posture) (cls : Machine.Class) : Prop :=
  (p = .run → cls = .report) ∧ (p = .hold → cls = .report ∨ cls = .hold) ∧ (p = .unload → cls ≠ .safe)

/-- Every latched entry fits its posture (R13). -/
def LatchesFit (s : State) : Prop := ∀ c, (s.entry c).latched = true → fits s.posture (classOf s.settings c)

/-- The FOLLOW entry's latch equals its condition (R8). -/
def Follows (s : State) : Prop := (s.entry .peerHold).latched = (s.entry .peerHold).condition

theorem causeLaw_iff (s : State) : causeLaw s ↔ LatchesFit s ∧ Follows s := by
  simp [causeLaw, LatchesFit, Follows, fits, Cause.mem_all]

end Sys2Proof.Postures

namespace Sys2Proof.Postures

open Sys2Proof Sys2Proof.Machine Sys2Proof.Laws Sys2Proof.Safety

/-- A change that latches no entry and leaves the posture keeps the fit. -/
theorem LatchesFit.of_latched {s t : State} (h : LatchesFit s) (hp : t.posture = s.posture)
    (hs : ∀ c, classOf t.settings c = classOf s.settings c)
    (hl : ∀ c, (t.entry c).latched = true → (s.entry c).latched = true) : LatchesFit t := fun c hc => by
  rw [hp, hs]; exact h c (hl c hc)

/-- IDLE and SAFE exclude no class (R13). -/
theorem latchesFit_of_resting {s : State} (h : s.posture = .idle ∨ s.posture = .safe) : LatchesFit s := fun c _ => by
  obtain h | h := h <;> simp [fits, h]

theorem setEntry_latched {c : Cause} {e : CauseEntry} {s : State} (he : e.latched = (s.entry c).latched) (d : Cause) :
    ((setEntry c e s).entry d).latched = (s.entry d).latched := by
  rw [entry_setEntry]
  split
  next h => subst h; exact he
  · rfl

theorem setEntry_latchesFit {s : State} {c : Cause} {e : CauseEntry} (h : LatchesFit s)
    (he : e.latched = (s.entry c).latched) : LatchesFit (setEntry c e s) :=
  h.of_latched rfl (fun _ => rfl) fun d hd => setEntry_latched he d ▸ hd

/-- The posture a latch leaves does not exclude the class that latched (R13). -/
theorem postureOnLatch_fits_own (c : Cause) (s : State) :
    fits (postureOnLatch c (classOf s.settings c) s).posture (classOf s.settings c) := by
  rw [postureOnLatch_posture]
  cases classOf s.settings c <;> cases s.posture <;> simp only [fits] <;> try split
  all_goals simp

/-- The posture a latch leaves excludes no class that fitted before (R13). -/
theorem postureOnLatch_fits_other (c : Cause) (cls : Machine.Class) {s : State} {d : Machine.Class}
    (h : fits s.posture d) : fits (postureOnLatch c cls s).posture d := by
  rw [postureOnLatch_posture]
  revert h
  cases cls <;> cases s.posture <;> simp only [fits] <;> try split
  all_goals cases d <;> simp

theorem latch_posture (c : Cause) (s : State) :
    (latch c s).posture = (postureOnLatch c (classOf s.settings c) (latchMarked c s)).posture := by
  rw [latch_eq]; split <;> simp

/-- The entries a latch leaves, as far as latches go: its own latched, every other as it was (R10, R13). -/
theorem latch_entry_latched (c : Cause) (s : State) (d : Cause) :
    ((latch c s).entry d).latched = if d = c then true else (s.entry d).latched := by
  have moved : ((postureOnLatch c (classOf s.settings c) (latchMarked c s)).entry d).latched =
      ((latchMarked c s).entry d).latched := by
    obtain h | ⟨h, -⟩ := postureOnLatch_entry c (classOf s.settings c) (latchMarked c s) d <;> rw [h]
  have : ((latch c s).entry d).latched = ((latchMarked c s).entry d).latched := by
    rw [latch_eq]; split <;> simp [moved]
  rw [this, latchMarked_entry]
  split <;> rfl

@[simp] theorem latch_settings (c : Cause) (s : State) : (latch c s).settings = s.settings := (latch_keeps c s).settings

theorem latch_latchesFit {s : State} (c : Cause) (h : LatchesFit s) : LatchesFit (latch c s) := fun d hd => by
  rw [latch_posture, latch_settings]
  by_cases hdc : d = c
  · subst hdc
    have := postureOnLatch_fits_own d (latchMarked d s)
    rwa [latchMarked_settings] at this
  · rw [latch_entry_latched, if_neg hdc] at hd
    exact postureOnLatch_fits_other _ _ (latchMarked_posture c s ▸ h d hd)

/-- HOLD exit keeps the fit: it waits until no HOLD-class entry is latched (R15). -/
theorem enterRun_latchesFit {s : State} (k : Option Cause) (hp : s.posture = .hold) (hn : s.holdLatched = false)
    (h : LatchesFit s) : LatchesFit (enterRun k s) := fun d hd => by
  rw [enterRun_entry] at hd
  rw [enterRun_settings, enterRun_posture]
  have hold : classOf s.settings d ≠ .hold := fun hc => by
    rw [(holdLatched_false_iff s).mp hn d hc] at hd; cases hd
  have := (h d hd).2.1 hp
  simpa [fits, hold] using this

theorem holdExit_latchesFit {s : State} (k : Option Cause) (h : LatchesFit s) : LatchesFit (holdExit k s) := by
  unfold holdExit
  split
  next hx => exact enterRun_latchesFit k hx.1 hx.2.1 h
  · exact h

/-! #### Clears -/

/-- An entry cleared, before the hold demand is revised (R11). -/
theorem clearLatch_eq (c : Cause) (s : State) : clearLatch c s =
    if classOf s.settings c = .hold then
      reviseHoldDemand c (pushNotice (.causeCleared c)
        (setEntry c { s.entry c with latched := false, ackPending := false } s))
    else pushNotice (.causeCleared c) (setEntry c { s.entry c with latched := false, ackPending := false } s) := rfl

section
variable (c : Cause) (s : State)

@[simp] theorem clearLatch_settings : (clearLatch c s).settings = s.settings := (clearLatch_keeps c s).settings
@[simp] theorem clearLatch_posture : (clearLatch c s).posture = s.posture := by rw [clearLatch_eq]; split <;> simp
@[simp] theorem clearLatch_holdRecord : (clearLatch c s).holdRecord = s.holdRecord := by
  rw [clearLatch_eq]; split <;> simp
@[simp] theorem clearLatch_unloadRecord : (clearLatch c s).unloadRecord = s.unloadRecord := by
  rw [clearLatch_eq]; split <;> simp
@[simp] theorem clearLatch_program : (clearLatch c s).program = s.program := by rw [clearLatch_eq]; split <;> simp
@[simp] theorem clearLatch_servo : (clearLatch c s).servo = s.servo := by rw [clearLatch_eq]; split <;> simp
@[simp] theorem clearLatch_peers : (clearLatch c s).peers = s.peers := by rw [clearLatch_eq]; split <;> simp

end

theorem clearLatch_entry_latched (c : Cause) (s : State) (d : Cause) :
    ((clearLatch c s).entry d).latched = if d = c then false else (s.entry d).latched := by
  rw [clearLatch_entry]; split <;> rfl

theorem clearLatch_latchesFit {s : State} (c : Cause) (h : LatchesFit s) : LatchesFit (clearLatch c s) :=
  h.of_latched (clearLatch_posture c s) (by simp) fun d hd => by
    rw [clearLatch_entry_latched] at hd
    split at hd
    · cases hd
    · exact hd

theorem clearEntry_latchesFit {s : State} (exit : Bool) (k : Option Cause) (c : Cause) (h : LatchesFit s) :
    LatchesFit (clearEntry exit k c s) := by
  unfold clearEntry
  split
  · exact holdExit_latchesFit k (clearLatch_latchesFit c h)
  · exact clearLatch_latchesFit c h

theorem CauseWork.latchesFit {exit : Bool} {s t : State} (w : CauseWork exit s t) (h : LatchesFit s) :
    LatchesFit t := by
  cases w with
  | quiet q => exact h.of_latched q.posture q.classes fun c hc => q.entry c ▸ hc
  | store c e he _ => exact setEntry_latchesFit h he
  | rise c => exact latch_latchesFit c (setEntry_latchesFit h rfl)
  | fail c _ => exact latchesFit_of_resting (.inr rfl)
  | fall k c v _ => exact clearEntry_latchesFit _ _ _ (setEntry_latchesFit h rfl)

/-! ### The FOLLOW entry (R8) -/

theorem Follows.of_entry {s t : State} (h : Follows s) (he : t.entry .peerHold = s.entry .peerHold) : Follows t := by
  rw [Follows, he]; exact h

theorem latch_entry_peerHold_condition (c : Cause) (s : State) :
    ((latch c s).entry .peerHold).condition = (s.entry .peerHold).condition := by
  by_cases hc : Cause.peerHold = c
  · subst hc
    have moved : (postureOnLatch .peerHold (classOf s.settings .peerHold) (latchMarked .peerHold s)).entry .peerHold =
        (latchMarked .peerHold s).entry .peerHold := by
      obtain h | ⟨-, h⟩ :=
        postureOnLatch_entry .peerHold (classOf s.settings .peerHold) (latchMarked .peerHold s) .peerHold
      · exact h
      · simp at h
    rw [latch_eq]
    split <;> simp [moved, latchMarked_entry]
  · rw [latch_entry_other hc (by simp) (by simp)]

theorem CauseWork.follows {exit : Bool} {s t : State} (w : CauseWork exit s t) (h : Follows s) : Follows t := by
  cases w with
  | quiet q => exact h.of_entry (q.entry _)
  | store c e he hp =>
    by_cases hc : c = .peerHold
    · subst hc; rw [Follows, entry_setEntry_same]; exact (hp rfl).symm
    · exact h.of_entry (entry_setEntry_other hc e s)
  | rise c =>
    rw [Follows, latch_entry_latched, latch_entry_peerHold_condition]
    by_cases hc : c = .peerHold
    · subst hc; simp
    · rw [if_neg (Ne.symm hc), entry_setEntry_other hc]; exact h
  | fail c _ => exact h.of_entry (by rw [endUnload_entry]; simp)
  | fall k c v hv =>
    rw [Follows, clearEntry_entry]
    by_cases hc : c = .peerHold
    · subst hc; simp [hv]
    · rw [if_neg (Ne.symm hc), entry_setEntry_other hc]; exact h

end Sys2Proof.Postures

/-! ### HOLD waits for something (R15, R22) -/

namespace Sys2Proof.Postures

open Sys2Proof Sys2Proof.Machine Sys2Proof.Laws Sys2Proof.Safety

theorem resumeRequired_congr {s t : State} (h : t.holdRecord = s.holdRecord) : t.resumeRequired = s.resumeRequired := by
  unfold State.resumeRequired; rw [h]

theorem holdLaw_of_posture {s : State} (h : s.posture ≠ .hold) : holdLaw s := fun hp => absurd hp h

/-- A change that keeps posture and hold record and clears no HOLD-class entry keeps the law of HOLD. -/
theorem holdLaw_congr {s t : State} (h : holdLaw s) (hp : t.posture = s.posture) (hr : t.holdRecord = s.holdRecord)
    (hc : ∀ c, classOf t.settings c = classOf s.settings c)
    (hl : ∀ c, classOf s.settings c = .hold → (s.entry c).latched = true → (t.entry c).latched = true) :
    holdLaw t := fun ht => by
  rw [resumeRequired_congr hr]
  refine (h (hp ▸ ht)).imp_left fun hh => ?_
  obtain ⟨c, hcc, hcl⟩ := (holdLatched_iff s).mp hh
  exact (holdLatched_iff t).mpr ⟨c, (hc c).trans hcc, hl c hcc hcl⟩

theorem latch_holdLaw {s : State} (c : Cause) (h : holdLaw s) : holdLaw (latch c s) := fun hp => by
  by_cases hc : classOf s.settings c = .hold
  · exact .inl ((holdLatched_iff _).mpr ⟨c, by simpa using hc, latch_latched c s⟩)
  · have hl : latch c s = postureOnLatch c (classOf s.settings c) (latchMarked c s) := by rw [latch_eq, if_neg hc]
    have kept : holdLaw (latchMarked c s) := holdLaw_congr h (by simp) (by simp) (by simp) fun d _ hd => by
      rw [latchMarked_entry]
      split
      · rfl
      · exact hd
    rw [hl] at hp ⊢
    obtain ⟨e, -⟩ | ⟨e, -⟩ | ⟨e, -⟩ | ⟨-, -, e⟩ | ⟨-, hu, -, e⟩ | ⟨-, -, e⟩ | ⟨-, -, e⟩ :=
      postureOnLatch_cases c (classOf s.settings c) (latchMarked c s)
    · rw [e] at hp ⊢; exact kept hp
    · exact absurd e hc
    · exact absurd e hc
    all_goals rw [e] at hp; simp_all

/-- After HOLD exit is evaluated a station in HOLD waits for something (R15). -/
theorem holdExit_holdLaw (k : Option Cause) (s : State) : holdLaw (holdExit k s) := by
  unfold holdExit
  split
  · exact holdLaw_of_posture (by simp)
  next hx =>
    intro hp
    cases hh : s.holdLatched with
    | true => exact .inl rfl
    | false =>
      cases hr : s.resumeRequired with
      | true => exact .inr rfl
      | false => exact absurd ⟨hp, hh, hr⟩ hx

theorem clearEntry_holdLaw {s : State} (k : Option Cause) (c : Cause) (h : holdLaw s) :
    holdLaw (clearEntry true k c s) := by
  unfold clearEntry
  split
  · exact holdExit_holdLaw k _
  next hc =>
    have hc : classOf s.settings c ≠ .hold := by simpa using hc
    refine holdLaw_congr h (by simp) (by simp) (by simp) fun d hd hl => ?_
    rw [clearLatch_entry_latched, if_neg fun e : d = c => hc (e ▸ hd)]; exact hl

theorem setEntry_holdLaw {s : State} {c : Cause} {e : CauseEntry} (h : holdLaw s)
    (he : e.latched = (s.entry c).latched) : holdLaw (setEntry c e s) :=
  holdLaw_congr h rfl rfl (fun _ => rfl) fun d _ hd => (setEntry_latched he d).trans hd

theorem CauseWork.holdLaw {s t : State} (w : CauseWork true s t) (h : Safety.holdLaw s) : Safety.holdLaw t := by
  cases w with
  | quiet q => exact holdLaw_congr h q.posture q.holdRecord q.classes fun c _ hc => q.entry c ▸ hc
  | store c e he _ => exact setEntry_holdLaw h he
  | rise c => exact latch_holdLaw c (setEntry_holdLaw h rfl)
  | fail c _ => exact holdLaw_of_posture (by simp)
  | fall k c v _ => exact clearEntry_holdLaw k c (setEntry_holdLaw h rfl)

/-! ### The records (R14, R16, R17) -/

theorem recordLaw_congr {s t : State} (h : recordLaw s) (hp : t.posture = s.posture)
    (hh : t.holdRecord = s.holdRecord) (hu : t.unloadRecord = s.unloadRecord) : recordLaw t := by
  unfold recordLaw; rw [hp, hh, hu]; exact h

/-- The bounds of an unload record's later-cause list (R17). -/
def laterBounded (u : Option UnloadRecord) : Prop := ∀ r ∈ u, r.later.length ≤ 8 ∧ r.overflow ≤ 255

theorem appendLater_unloadRecord (c : Cause) (s : State) : (appendLater c s).unloadRecord =
    s.unloadRecord.map fun r =>
      if r.later.length < Config.laterPlaces then { r with later := r.later ++ [c] }
      else { r with overflow := saturate 255 (r.overflow + 1) } := rfl

theorem appendLater_laterBounded {s : State} (c : Cause) (h : laterBounded s.unloadRecord) :
    laterBounded (appendLater c s).unloadRecord := by
  intro r hr
  rw [appendLater_unloadRecord, Option.mem_def, Option.map_eq_some_iff] at hr
  obtain ⟨r, hr, rfl⟩ := hr
  have hb := h r hr
  by_cases hlt : r.later.length < Config.laterPlaces
  · rw [if_pos hlt]
    exact ⟨by rw [List.length_append]; exact hlt, hb.2⟩
  · rw [if_neg hlt]
    exact ⟨hb.1, by simp [saturate]⟩

theorem appendLater_outcome (c : Cause) (s : State) :
    (appendLater c s).unloadRecord.map (fun r => r.outcome) = s.unloadRecord.map fun r => r.outcome := by
  rw [appendLater_unloadRecord, Option.map_map]
  congr 1
  funext r
  simp only [Function.comp_apply]
  split <;> rfl

/-- In SAFE only the bounds of the later-cause list remain of the law of the records. -/
theorem recordLaw_of_safe {s : State} (hp : s.posture = .safe) (h : laterBounded s.unloadRecord) : recordLaw s :=
  ⟨fun k => by rw [hp] at k; (cases k), fun k => by rw [hp] at k; (cases k), h⟩

theorem setOutcome_laterBounded {u : Option UnloadRecord} (o : UnloadOutcome) (h : laterBounded u) :
    laterBounded (u.map fun r => { r with outcome := o }) := by
  intro r hr
  rw [Option.mem_def, Option.map_eq_some_iff] at hr
  obtain ⟨r, hr, rfl⟩ := hr
  exact h r hr

theorem endUnload_recordLaw {s : State} (k : Option Cause) (o : UnloadOutcome) (h : laterBounded s.unloadRecord) :
    recordLaw (endUnload k o s) :=
  recordLaw_of_safe rfl (setOutcome_laterBounded o h)

theorem postureOnLatch_recordLaw {s : State} (c : Cause) (cls : Machine.Class) (h : recordLaw s) :
    recordLaw (postureOnLatch c cls s) := by
  obtain ⟨hhold, hunload, hlater⟩ := h
  have fresh : laterBounded (some ⟨c, s.posture, s.time, s.servo.target, s.loadNow, [], 0, .pending⟩) := by
    intro r hr; cases hr; simp
  obtain ⟨e, -⟩ | ⟨-, -, e⟩ | ⟨-, hp, e⟩ | ⟨-, -, e⟩ | ⟨-, hp, -, e⟩ | ⟨-, -, e⟩ | ⟨-, -, e⟩ :=
    postureOnLatch_cases c cls s <;> rw [e]
  · exact ⟨hhold, hunload, hlater⟩
  · exact ⟨fun _ => rfl, fun k => (by cases k), hlater⟩
  · refine ⟨fun _ => ?_, fun k => ?_, hlater⟩
    · simpa [requireResume] using hhold hp
    · rw [requireResume_posture, hp] at k; cases k
  · exact ⟨fun k => (by cases k), fun _ => rfl, fresh⟩
  · refine ⟨fun k => ?_, fun _ => (appendLater_outcome c s).trans (hunload hp), appendLater_laterBounded c hlater⟩
    rw [appendLater_posture, hp] at k; cases k
  · exact endUnload_recordLaw _ _ (appendLater_laterBounded c hlater)
  · exact recordLaw_of_safe rfl (setOutcome_laterBounded .incomplete fresh)

theorem latch_recordLaw {s : State} (c : Cause) (h : recordLaw s) : recordLaw (latch c s) := by
  have moved := postureOnLatch_recordLaw c (classOf s.settings c)
    (recordLaw_congr (t := latchMarked c s) h (by simp) (by simp) (by simp))
  rw [latch_eq]
  split
  · exact recordLaw_congr moved (by simp) (by simp) (by simp)
  · exact moved

theorem enterRun_recordLaw {s : State} (k : Option Cause) (h : laterBounded s.unloadRecord) :
    recordLaw (enterRun k s) := by
  refine ⟨fun hp => ?_, fun hp => ?_, (enterRun_unloadRecord s k).symm ▸ h⟩ <;>
    (rw [enterRun_posture] at hp; cases hp)

theorem holdExit_recordLaw {s : State} (k : Option Cause) (h : recordLaw s) : recordLaw (holdExit k s) := by
  unfold holdExit
  split
  · exact enterRun_recordLaw k h.2.2
  · exact h

theorem clearEntry_recordLaw {s : State} (exit : Bool) (k : Option Cause) (c : Cause) (h : recordLaw s) :
    recordLaw (clearEntry exit k c s) := by
  have cleared : recordLaw (clearLatch c s) := recordLaw_congr h (by simp) (by simp) (by simp)
  unfold clearEntry
  split
  · exact holdExit_recordLaw k cleared
  · exact cleared

theorem CauseWork.recordLaw {exit : Bool} {s t : State} (w : CauseWork exit s t) (h : Safety.recordLaw s) :
    Safety.recordLaw t := by
  cases w with
  | quiet q => exact recordLaw_congr h q.posture q.holdRecord q.unloadRecord
  | store c e _ _ => exact recordLaw_congr h rfl rfl rfl
  | rise c => exact latch_recordLaw c (recordLaw_congr h rfl rfl rfl)
  | fail c _ => exact endUnload_recordLaw _ _ (appendLater_laterBounded c h.2.2)
  | fall k c v _ => exact clearEntry_recordLaw _ _ _ (recordLaw_congr h rfl rfl rfl)

/-! ### The hold demand (R121) -/

theorem demandLaw_congr {s t : State} (h : demandLaw s) (hp : t.posture = s.posture)
    (ho : t.ownHoldLatched = s.ownHoldLatched) (hr : t.settings.holdRenewTime = s.settings.holdRenewTime)
    (hh : t.line.holdTime = s.line.holdTime) : demandLaw t := by
  unfold demandLaw; rw [hp, ho, hr, hh]; exact h

/-- Out of HOLD the law is that the hold time is 0 (R121). -/
theorem demandLaw_of_posture {s : State} (hp : s.posture ≠ .hold) (h : s.line.holdTime = 0) : demandLaw s := by
  simp [demandLaw, hp, h]

theorem holdTime_of_demandLaw {s : State} (h : demandLaw s) (hp : s.posture ≠ .hold) : s.line.holdTime = 0 := by
  unfold demandLaw at h; simpa [hp] using h

theorem reviseHoldDemand_demandLaw {s : State} (c : Cause)
    (h : s.line.holdTime = 0 ∨ s.line.holdTime = s.settings.holdRenewTime) : demandLaw (reviseHoldDemand c s) := by
  have ho : (reviseHoldDemand c s).ownHoldLatched = s.ownHoldLatched := ownHoldLatched_congr (by simp) (by simp)
  have hp : (reviseHoldDemand c s).posture = s.posture := reviseHoldDemand_posture c s
  have hs : (reviseHoldDemand c s).settings = s.settings := reviseHoldDemand_settings s c
  unfold demandLaw
  rw [ho, hp, hs, reviseHoldDemand_holdTime]
  split
  · split
    · rfl
    next h0 => exact h.resolve_left h0
  · rfl

theorem holdTime_cases_of_demandLaw {s : State} (h : demandLaw s) :
    s.line.holdTime = 0 ∨ s.line.holdTime = s.settings.holdRenewTime := by
  unfold demandLaw at h
  split at h
  · exact .inr h
  · exact .inl h

/-- The hold time that a latch's posture change leaves is the one before, or 0 (R2, R121). -/
theorem postureOnLatch_holdTime (c : Cause) (cls : Machine.Class) (s : State) :
    (postureOnLatch c cls s).line.holdTime = s.line.holdTime ∨ (postureOnLatch c cls s).line.holdTime = 0 := by
  obtain ⟨e, -⟩ | ⟨-, -, e⟩ | ⟨-, -, e⟩ | ⟨-, -, e⟩ | ⟨-, -, -, e⟩ | ⟨-, -, e⟩ | ⟨-, -, e⟩ :=
    postureOnLatch_cases c cls s <;> rw [e] <;> simp

theorem latch_demandLaw {s : State} (c : Cause) (h : demandLaw s) : demandLaw (latch c s) := by
  have hold := (holdTime_cases_of_demandLaw h)
  rw [latch_eq]
  split
  next hc =>
    refine reviseHoldDemand_demandLaw c ?_
    rw [(postureOnLatch_keeps c (classOf s.settings c) (latchMarked c s)).settings]
    obtain e | e := postureOnLatch_holdTime c (classOf s.settings c) (latchMarked c s) <;> rw [e] <;> simp [hold]
  next hc =>
    have kept : demandLaw (latchMarked c s) := by
      refine demandLaw_congr h (by simp) (ownHoldLatched_congr (by simp) fun d hd => ?_) (by simp) (by simp)
      rw [latchMarked_entry, if_neg fun e : d = c => hc (e ▸ hd)]
    obtain ⟨e, -⟩ | ⟨e, -⟩ | ⟨e, -⟩ | ⟨-, -, e⟩ | ⟨-, hp, -, e⟩ | ⟨-, -, e⟩ | ⟨-, -, e⟩ :=
      postureOnLatch_cases c (classOf s.settings c) (latchMarked c s)
    · rw [e]; exact kept
    · exact absurd e hc
    · exact absurd e hc
    · rw [e]; exact demandLaw_of_posture (by simp) (by simp)
    · rw [e]
      exact demandLaw_congr kept rfl rfl rfl rfl
    · rw [e]; exact demandLaw_of_posture (by simp) (by simp)
    · rw [e]; exact demandLaw_of_posture (by simp) (by simp)

theorem enterRun_demandLaw (k : Option Cause) (s : State) : demandLaw (enterRun k s) :=
  demandLaw_of_posture (by simp) (by simp)

theorem holdExit_demandLaw {s : State} (k : Option Cause) (h : demandLaw s) : demandLaw (holdExit k s) := by
  unfold holdExit
  split
  · exact enterRun_demandLaw k s
  · exact h

theorem clearLatch_demandLaw {s : State} (c : Cause) (h : demandLaw s) : demandLaw (clearLatch c s) := by
  rw [clearLatch_eq]
  split
  · exact reviseHoldDemand_demandLaw c (by simpa using holdTime_cases_of_demandLaw h)
  next hc =>
    refine demandLaw_congr h (by simp) (ownHoldLatched_congr (by simp) fun d hd => ?_) (by simp) (by simp)
    rw [pushNotice_entry, entry_setEntry_other fun e : c = d => hc (e ▸ hd)]

theorem setEntry_demandLaw {s : State} {c : Cause} {e : CauseEntry} (h : demandLaw s)
    (he : e.latched = (s.entry c).latched) : demandLaw (setEntry c e s) :=
  demandLaw_congr h rfl (ownHoldLatched_congr (fun _ => rfl) fun d _ => setEntry_latched he d) rfl rfl

theorem CauseWork.demandLaw {exit : Bool} {s t : State} (w : CauseWork exit s t) (h : Safety.demandLaw s) :
    Safety.demandLaw t := by
  cases w with
  | quiet q =>
    exact demandLaw_congr h q.posture (ownHoldLatched_congr q.classes fun d _ => by rw [q.entry]) q.holdRenewTime
      q.holdTime
  | store c e he _ => exact setEntry_demandLaw h he
  | rise c => exact latch_demandLaw c (setEntry_demandLaw h rfl)
  | fail c _ => exact demandLaw_of_posture (by simp) (by simp)
  | fall k c v _ =>
    have cleared := clearLatch_demandLaw c
      (setEntry_demandLaw (e := { s.entry c with condition := v }) h rfl)
    unfold clearEntry
    split
    · exact holdExit_demandLaw k cleared
    · exact cleared

/-! ### The loop and the trim (R58, R65, R113) -/

/-- The loop's control values are those of another state: all but the unload ramp and the settle test. -/
structure SameControl (v w : Servo) : Prop where
  valve : w.valve = v.valve
  integrator : w.integrator = v.integrator
  satDir : w.satDir = v.satDir
  satCount : w.satCount = v.satCount
  followCount : w.followCount = v.followCount

/-- Work on the cause table leaves loop and trim as they are, or enters SAFE with both at rest (R65, R113). -/
def RestsOrKeeps (s t : State) : Prop :=
  t.settings = s.settings ∧
    ((SameControl s.servo t.servo ∧ t.peers.trim = s.peers.trim ∧
        ((t.posture = .idle ∨ t.posture = .safe) → (s.posture = .idle ∨ s.posture = .safe))) ∨
      ((∃ v, t.servo = restServo v) ∧ t.peers.trim = 0))

theorem SameControl.refl (v : Servo) : SameControl v v := ⟨rfl, rfl, rfl, rfl, rfl⟩

theorem RestsOrKeeps.refl (s : State) : RestsOrKeeps s s := ⟨rfl, .inl ⟨.refl _, rfl, id⟩⟩

theorem endUnload_rests (k : Option Cause) (o : UnloadOutcome) (s : State) : RestsOrKeeps s (endUnload k o s) :=
  ⟨rfl, .inr ⟨⟨_, rfl⟩, rfl⟩⟩

theorem latch_restsOrKeeps (c : Cause) (s : State) : RestsOrKeeps s (latch c s) := by
  have moved : RestsOrKeeps s (postureOnLatch c (classOf s.settings c) (latchMarked c s)) := by
    obtain ⟨e, -⟩ | ⟨-, -, e⟩ | ⟨-, -, e⟩ | ⟨-, -, e⟩ | ⟨-, -, -, e⟩ | ⟨-, -, e⟩ | ⟨-, -, e⟩ :=
      postureOnLatch_cases c (classOf s.settings c) (latchMarked c s) <;> rw [e]
    · exact ⟨by simp, .inl ⟨by simp [SameControl.refl], by simp, by simp⟩⟩
    · exact ⟨by simp, .inl ⟨by simp [SameControl.refl], by simp, by simp⟩⟩
    · exact ⟨by simp, .inl ⟨by simp [SameControl.refl], by simp, by simp⟩⟩
    · exact ⟨by simp, .inl ⟨⟨by simp, by simp, by simp, by simp, by simp⟩, by simp, by simp⟩⟩
    · exact ⟨by simp, .inl ⟨by simp [SameControl.refl], by simp, by simp⟩⟩
    · exact ⟨by simp, .inr ⟨⟨_, rfl⟩, rfl⟩⟩
    · exact ⟨by simp, .inr ⟨⟨_, rfl⟩, rfl⟩⟩
  rw [latch_eq]
  split
  · simpa [RestsOrKeeps] using moved
  · exact moved

theorem holdExit_restsOrKeeps (k : Option Cause) (s : State) : RestsOrKeeps s (holdExit k s) := by
  unfold holdExit
  split
  · exact ⟨by simp, .inl ⟨by simp [SameControl.refl], by simp, by simp⟩⟩
  · exact .refl s

theorem clearEntry_restsOrKeeps (exit : Bool) (k : Option Cause) (c : Cause) (s : State) :
    RestsOrKeeps s (clearEntry exit k c s) := by
  unfold clearEntry
  split
  · simpa [RestsOrKeeps] using holdExit_restsOrKeeps k (clearLatch c s)
  · exact ⟨by simp, .inl ⟨by simp [SameControl.refl], by simp, by simp⟩⟩

/-- The loop as a law over settings, posture and control values (R47, R58, R65). -/
theorem loopLaw_of_restsOrKeeps {s t : State} (k : RestsOrKeeps s t) (h : loopLaw s) : loopLaw t := by
  obtain ⟨hs, ⟨v, -, hp⟩ | ⟨⟨v, hv⟩, -⟩⟩ := k
  · unfold loopLaw
    rw [hs, v.valve, v.integrator, v.satDir, v.satCount, v.followCount]
    exact ⟨h.1, h.2.1, h.2.2.1, h.2.2.2.1, fun ht => h.2.2.2.2 (hp ht)⟩
  · unfold loopLaw
    rw [hs, hv]
    simp [restServo]

theorem trimLaw_of_restsOrKeeps {s t : State} (k : RestsOrKeeps s t) (h : trimLaw s) : trimLaw t := by
  obtain ⟨hs, ⟨-, ht, hp⟩ | ⟨-, ht⟩⟩ := k
  · unfold trimLaw
    rw [hs, ht]
    exact ⟨h.1, h.2.1, fun hr => h.2.2 (hp hr)⟩
  · unfold trimLaw
    rw [hs, ht]
    simp

theorem CauseWork.loopLaw {exit : Bool} {s t : State} (w : CauseWork exit s t) (h : Safety.loopLaw s) :
    Safety.loopLaw t := by
  cases w with
  | quiet q =>
    unfold Safety.loopLaw
    rw [q.valveLimit, q.integratorLimit, q.valve, q.integrator, q.satDir, q.satCount, q.followCount, q.posture]
    exact h
  | store c e _ _ => exact h
  | rise c => exact loopLaw_of_restsOrKeeps (latch_restsOrKeeps c (setEntry c { s.entry c with condition := true } s)) h
  | fail c _ => exact loopLaw_of_restsOrKeeps (endUnload_rests _ _ _) h
  | fall k c v _ =>
    exact loopLaw_of_restsOrKeeps (clearEntry_restsOrKeeps exit k c (setEntry c { s.entry c with condition := v } s)) h

theorem CauseWork.trimLaw {exit : Bool} {s t : State} (w : CauseWork exit s t) (h : Safety.trimLaw s) :
    Safety.trimLaw t := by
  cases w with
  | quiet q => unfold Safety.trimLaw; rw [q.trimLimit, q.trim, q.posture]; exact h
  | store c e _ _ => exact h
  | rise c => exact trimLaw_of_restsOrKeeps (latch_restsOrKeeps c (setEntry c { s.entry c with condition := true } s)) h
  | fail c _ => exact trimLaw_of_restsOrKeeps (endUnload_rests _ _ (appendLater c s)) h
  | fall k c v _ =>
    exact trimLaw_of_restsOrKeeps (clearEntry_restsOrKeeps exit k c (setEntry c { s.entry c with condition := v } s)) h

end Sys2Proof.Postures

/-! ## The laws along a run of moves -/

namespace Sys2Proof.Postures

open Sys2Proof Sys2Proof.Machine Sys2Proof.Laws Sys2Proof.Safety Sys2Proof.Claims

/-! ### START, CLEAR and the resets (R20, R23, R197) -/

/-- The five checks of R20 passed. -/
theorem startCheck_eq_none_iff (s : State) : startCheck s = none ↔
    s.settings.stationId ≠ 0 ∧ s.settings.group ≠ 0 ∧ limitsOrdered s ∧ (s.entry .loadStale).condition = false ∧
      (s.entry .peerUnload).condition = false ∧ s.startBlocked = false := by
  unfold startCheck limitsOrdered
  split
  next h => simp only [reduceCtorEq, false_iff]; omega
  next h =>
    push Not at h
    split
    next h1 => simp only [reduceCtorEq, false_iff]; exact fun k => h1 k.2.2.1
    next h1 =>
      have h1 := Decidable.not_not.mp h1
      cases (s.entry .loadStale).condition <;> cases (s.entry .peerUnload).condition <;> cases s.startBlocked <;>
        simp [h, h1]

theorem startBlocked_false_iff (s : State) : s.startBlocked = false ↔
    ∀ c, c ≠ .peerHold → classOf s.settings c ≠ .report → (s.entry c).latched = false := by
  rw [← Bool.not_eq_true, State.startBlocked, anyLatched_iff]
  simp only [Bool.and_eq_true, decide_eq_true_eq, not_exists, not_and, Bool.not_eq_true, and_imp]
  exact ⟨fun h c hp hr => h c hr hp, fun h c hr hp => h c hp hr⟩

section
variable (s : State)

@[simp] theorem startHeld_posture : (startHeld s).posture = .hold := by simp [startHeld]
@[simp] theorem startHeld_settings : (startHeld s).settings = s.settings := by simp [startHeld]
@[simp] theorem startHeld_causes : (startHeld s).causes = s.causes := by simp [startHeld]
@[simp] theorem startHeld_entry (d : Cause) : (startHeld s).entry d = s.entry d := by simp [State.entry]
@[simp] theorem startHeld_holdRecord : (startHeld s).holdRecord =
    some ⟨.peerHold, s.time, s.program.counts, s.loadNow, false⟩ := by simp [startHeld, writeHoldRecord]
@[simp] theorem startHeld_unloadRecord : (startHeld s).unloadRecord = s.unloadRecord := by simp [startHeld]
@[simp] theorem startHeld_servo : (startHeld s).servo = s.servo := by simp [startHeld]
@[simp] theorem startHeld_peers : (startHeld s).peers = s.peers := by simp [startHeld]
@[simp] theorem startHeld_line : (startHeld s).line = { s.line with holdTime := 0, demandCause := none } := by
  simp [startHeld, dropDemand]

@[simp] theorem prepareStart_entry (d : Cause) : (prepareStart s).entry d = s.entry d := rfl

/-- CLEAR leaves IDLE (R23). -/
@[simp] theorem clearStation_posture : (clearStation s).posture = .idle := by
  unfold clearStation
  split
  next h => exact h
  · rfl

@[simp] theorem clearStation_settings : (clearStation s).settings = s.settings := by
  unfold clearStation; split <;> rfl
@[simp] theorem clearStation_entry (d : Cause) : (clearStation s).entry d = s.entry d := by
  unfold clearStation; split <;> rfl
@[simp] theorem clearStation_unloadRecord : (clearStation s).unloadRecord = s.unloadRecord := by
  unfold clearStation; split <;> rfl
@[simp] theorem clearStation_servo : (clearStation s).servo = s.servo := by
  unfold clearStation; split <;> rfl
@[simp] theorem clearStation_trim : (clearStation s).peers.trim = 0 := by
  unfold clearStation; split <;> rfl
@[simp] theorem clearStation_holdTime : (clearStation s).line.holdTime = 0 := rfl

end

/-- The trim's step is the trim's alone (R113). -/
theorem stepTrim_eq (s : State) :
    stepTrim s = { s with peers := { s.peers with trim := (stepTrim s).peers.trim } } := by
  unfold stepTrim; split <;> rfl

/-- After reset every entry is clear, and LOAD_STALE's condition alone is true (R3, R197). -/
theorem resetStation_entry (s : State) (c : Cause) :
    (resetStation s).entry c = if Cause.loadStale = c then { condition := true } else {} := by
  have h : (resetStation s).entry c =
      (setEntry .loadStale { condition := true } { State.reset with causes := Vector.replicate 59 {} }).entry c := rfl
  rw [h, entry_setEntry]
  simp [State.entry]

/-! ### The laws of causes and of HOLD -/

theorem Move.latchesFit {s t : State} (m : Move s t) (h : LatchesFit s) (hf : Follows s) : LatchesFit t := by
  cases m with
  | work w => exact w.latchesFit h
  | acknowledged m w =>
    refine holdExit_latchesFit none ?_
    clear hf
    induction w with
    | refl => exact h
    | tail _ w ih => exact w.latchesFit ih
  | settings st hp => exact latchesFit_of_resting (.inl hp)
  | loop _ _ => exact h
  | shut _ => exact h
  | settled o => exact latchesFit_of_resting (.inr rfl)
  | trim =>
    rw [stepTrim_eq]
    exact h
  | start hp hc =>
    have clear := (startBlocked_false_iff s).mp ((startCheck_eq_none_iff s).mp hc).2.2.2.2.2
    have report : ∀ c, (s.entry c).latched = true → c ≠ .peerHold → classOf s.settings c = .report := by
      intro c hl hn
      by_contra hr
      rw [clear c hn hr] at hl
      cases hl
    intro c hl
    unfold startStation at hl ⊢
    split at hl
    next hh =>
      rw [if_pos hh]
      rw [startHeld_entry, prepareStart_entry] at hl
      by_cases hn : c = .peerHold
      · subst hn; simp [fits, classOf]
      · simp [fits, report c hl hn, prepareStart]
    next hh =>
      rw [if_neg hh]
      rw [enterRun_entry, prepareStart_entry] at hl
      have hn : c ≠ .peerHold := fun e => hh (by subst e; exact hf ▸ hl)
      simp [fits, report c hl hn, prepareStart]
  | resume hp hn => exact enterRun_latchesFit none hp hn h
  | clear _ => exact latchesFit_of_resting (.inl (clearStation_posture s))
  | reset => exact latchesFit_of_resting (.inl rfl)

theorem startStation_entry (s : State) (d : Cause) : (startStation s).entry d = s.entry d := by
  unfold startStation; split <;> simp

theorem Move.follows {s t : State} (m : Move s t) (h : Follows s) : Follows t := by
  cases m with
  | work w => exact w.follows h
  | acknowledged m w =>
    have : Follows m := by
      induction w with
      | refl => exact h
      | tail _ w ih => exact w.follows ih
    exact this.of_entry (by unfold State.entry; rw [holdExit_causes])
  | settings st hp => exact h
  | loop _ _ => exact h
  | shut _ => exact h
  | settled o => exact h.of_entry (by rw [endUnload_entry]; simp)
  | trim => exact h.of_entry (by unfold stepTrim; split <;> rfl)
  | start hp hc => exact h.of_entry (startStation_entry s _)
  | resume hp hn => exact h.of_entry (enterRun_entry s none _)
  | clear _ => exact h.of_entry (clearStation_entry s _)
  | reset => rw [Follows, resetStation_entry]; rfl

theorem Move.holdLaw {s t : State} (m : Move s t) (h : Safety.holdLaw s) (hf : Follows s) : Safety.holdLaw t := by
  cases m with
  | work w => exact w.holdLaw h
  | acknowledged m w => exact holdExit_holdLaw none _
  | settings st hp => exact holdLaw_of_posture (by simp [hp])
  | loop _ _ => exact h
  | shut _ => exact h
  | settled o => exact holdLaw_of_posture (by simp)
  | trim => unfold stepTrim; split <;> exact h
  | start hp hc =>
    unfold startStation
    split
    next hh =>
      have latched : (s.entry .peerHold).latched = true := hf.trans hh
      exact fun _ => .inl ((holdLatched_iff _).mpr ⟨.peerHold, rfl, by simpa using latched⟩)
    · exact holdLaw_of_posture (by simp)
  | resume hp hn => exact holdLaw_of_posture (by simp)
  | clear _ => exact holdLaw_of_posture (by simp)
  | reset => exact holdLaw_of_posture (by simp [resetStation, State.reset])

theorem Moves.causeLaw_holdLaw {s t : State} (m : Moves s t) (hc : causeLaw s) (hh : holdLaw s) :
    causeLaw t ∧ holdLaw t := by
  rw [causeLaw_iff] at hc ⊢
  induction m with
  | refl => exact ⟨hc, hh⟩
  | tail _ m ih => exact ⟨⟨m.latchesFit ih.1.1 ih.1.2, m.follows ih.1.2⟩, m.holdLaw ih.2 ih.1.2⟩

/-! ### The law of the records -/

theorem Move.recordLaw {s t : State} (m : Move s t) (h : Safety.recordLaw s) : Safety.recordLaw t := by
  cases m with
  | work w => exact w.recordLaw h
  | acknowledged m w =>
    refine holdExit_recordLaw none ?_
    induction w with
    | refl => exact h
    | tail _ w ih => exact w.recordLaw ih
  | settings st hp => exact h
  | loop _ _ => exact h
  | shut _ => exact h
  | settled o => exact endUnload_recordLaw none o h.2.2
  | trim => unfold stepTrim; split <;> exact h
  | start hp hc =>
    have none_bounded : laterBounded none := fun r hr => by cases hr
    unfold startStation
    split
    · refine ⟨fun _ => by simp, fun k => ?_, (startHeld_unloadRecord (prepareStart s)).symm ▸ none_bounded⟩
      rw [startHeld_posture] at k; cases k
    · exact enterRun_recordLaw none none_bounded
  | resume hp hn => exact enterRun_recordLaw none h.2.2
  | clear _ =>
    refine ⟨fun k => ?_, fun k => ?_, (clearStation_unloadRecord s).symm ▸ h.2.2⟩ <;>
      (rw [clearStation_posture] at k; cases k)
  | reset => exact ⟨fun k => (by cases k), fun k => (by cases k), fun r hr => (by cases hr)⟩

/-! ### The law of the hold demand -/

theorem Move.demandLaw {s t : State} (m : Move s t) (h : Safety.demandLaw s) : Safety.demandLaw t := by
  cases m with
  | work w => exact w.demandLaw h
  | acknowledged m w =>
    refine holdExit_demandLaw none ?_
    induction w with
    | refl => exact h
    | tail _ w ih => exact w.demandLaw ih
  | settings st hp =>
    exact demandLaw_of_posture (by simp [hp]) (holdTime_of_demandLaw (s := s) h (by simp [hp]))
  | loop _ _ => exact h
  | shut _ => exact h
  | settled o => exact demandLaw_of_posture (by simp) (by simp)
  | trim => unfold stepTrim; split <;> exact h
  | start hp hc =>
    have clear := (startBlocked_false_iff s).mp ((startCheck_eq_none_iff s).mp hc).2.2.2.2.2
    unfold startStation
    split
    · have none : (startHeld (prepareStart s)).ownHoldLatched = false := by
        rw [← Bool.not_eq_true, ownHoldLatched_iff]
        rintro ⟨c, ⟨hcls, hn⟩, hl⟩
        rw [startHeld_entry, prepareStart_entry] at hl
        rw [startHeld_settings] at hcls
        rw [clear c hn (by rw [show classOf s.settings c = .hold from hcls]; simp)] at hl
        cases hl
      simp [Safety.demandLaw, none]
    · exact enterRun_demandLaw _ _
  | resume hp hn => exact enterRun_demandLaw none s
  | clear _ => exact demandLaw_of_posture (by simp) (by simp)
  | reset => exact demandLaw_of_posture (by simp [resetStation, State.reset]) rfl

/-! ### The laws of the loop and of the trim -/

theorem clampTo_bounds {n : Nat} (v : Int) : -(n : Int) ≤ clampTo (-n) n v ∧ clampTo (-n) n v ≤ n := by
  unfold clampTo; omega

/-- The stages of the loop keep the valve code and the integrator inside their limits (R56, R58). -/
theorem loopStages_bounded (st : Settings) (load : Int) {v : Servo}
    (hi : -(st.integratorLimit : Int) ≤ v.integrator ∧ v.integrator ≤ st.integratorLimit) :
    (-(st.valveLimit : Int) ≤ (loopStages st load v).valve ∧ (loopStages st load v).valve ≤ st.valveLimit) ∧
    -(st.integratorLimit : Int) ≤ (loopStages st load v).integrator ∧
    (loopStages st load v).integrator ≤ st.integratorLimit := by
  refine ⟨clampTo_bounds _, ?_⟩
  simp only [loopStages, integrate]
  split
  · exact hi
  · exact clampTo_bounds _

theorem Move.loopLaw {s t : State} (m : Move s t) (h : Safety.loopLaw s) : Safety.loopLaw t := by
  cases m with
  | work w => exact w.loopLaw h
  | acknowledged m w =>
    refine loopLaw_of_restsOrKeeps (holdExit_restsOrKeeps none m) ?_
    induction w with
    | refl => exact h
    | tail _ w ih => exact w.loopLaw ih
  | settings st hp =>
    obtain ⟨hv, hi, hrest⟩ := h.2.2.2.2 (.inl hp)
    refine ⟨?_, ?_, ?_, ?_, fun _ => ⟨hv, hi, hrest⟩⟩ <;> simp [hv, hi]
  | loop hi hs =>
    obtain ⟨hv, hg⟩ := loopStages_bounded s.settings s.loadNow ⟨h.2.2.1, h.2.2.2.1⟩
    exact ⟨hv.1, hv.2, hg.1, hg.2, fun k => absurd k (by simp [hi, hs])⟩
  | shut hp =>
    obtain ⟨-, hrest⟩ := h.2.2.2.2 hp
    exact ⟨by simp, by simp, h.2.2.1, h.2.2.2.1, fun _ => ⟨rfl, hrest⟩⟩
  | settled o => exact loopLaw_of_restsOrKeeps (endUnload_rests none o s) h
  | trim => unfold stepTrim; split <;> exact h
  | start hp hc =>
    obtain ⟨-, -, hd, hn, hf⟩ := h.2.2.2.2 (.inl hp)
    unfold startStation
    split <;> simp [Safety.loopLaw, prepareStart, hd, hn, hf]
  | resume hp hn => simp only [Safety.loopLaw, enterRun_servo, enterRun_settings, enterRun_posture] at h ⊢; simp_all
  | clear hp =>
    simp only [Safety.loopLaw, clearStation_servo, clearStation_settings] at h ⊢
    exact ⟨h.1, h.2.1, h.2.2.1, h.2.2.2.1, fun _ => h.2.2.2.2 hp⟩
  | reset => simp [Safety.loopLaw, resetStation, State.reset]

/-- One step of the trim stays inside the trim limit (R114). -/
theorem trimAfter_bounded (st : Settings) (load : Int) (share : List Peer) {trim : Int}
    (h : -(st.trimLimit : Int) ≤ trim ∧ trim ≤ st.trimLimit) :
    -(st.trimLimit : Int) ≤ trimAfter st load share trim ∧ trimAfter st load share trim ≤ st.trimLimit := by
  unfold trimAfter
  split
  · exact h
  · exact clampTo_bounds _

theorem Move.trimLaw {s t : State} (m : Move s t) (h : Safety.trimLaw s) : Safety.trimLaw t := by
  cases m with
  | work w => exact w.trimLaw h
  | acknowledged m w =>
    refine trimLaw_of_restsOrKeeps (holdExit_restsOrKeeps none m) ?_
    induction w with
    | refl => exact h
    | tail _ w ih => exact w.trimLaw ih
  | settings st hp => simp [Safety.trimLaw, h.2.2 (.inl hp)]
  | loop _ _ => exact h
  | shut _ => exact h
  | settled o => exact trimLaw_of_restsOrKeeps (endUnload_rests none o s) h
  | trim =>
    unfold stepTrim
    split
    next hp =>
      have b := trimAfter_bounded s.settings s.loadNow (s.peers.entries.filter (inShareSet s.settings.group))
        ⟨h.1, h.2.1⟩
      refine ⟨b.1, b.2, fun k => ?_⟩
      obtain hp | hp := hp <;> simp [hp] at k
    · exact h
  | start hp hc => unfold startStation; split <;> simp [Safety.trimLaw, prepareStart]
  | resume hp hn => simp only [Safety.trimLaw, enterRun_peers, enterRun_settings, enterRun_posture] at h ⊢; simp_all
  | clear _ => simp [Safety.trimLaw]
  | reset => simp [Safety.trimLaw, resetStation, State.reset]

end Sys2Proof.Postures

/-! ## Every step is a run of moves -/

namespace Sys2Proof.Postures

open Sys2Proof Sys2Proof.Machine Sys2Proof.Laws Sys2Proof.Safety Sys2Proof.Claims

theorem Quiet.moves {s t : State} (h : Quiet s t) : Moves s t := .single (.work (.quiet h))

/-- A line with the same hold time is quiet. -/
theorem setLine_quiet {l : Line} {s : State} (h : l.holdTime = s.line.holdTime) : Quiet s (setLine l s) :=
  { Quiet.refl s with holdTime := h }

theorem pushNotice_quiet (n : Notice) (s : State) : Quiet s (pushNotice n s) := by constructor <;> intros <;> rfl

theorem program_quiet (p : Program) (s : State) : Quiet s { s with program := p } := by constructor <;> intros <;> rfl

theorem strain_quiet (u : Strain) (s : State) : Quiet s { s with strain := u } := by constructor <;> intros <;> rfl

theorem crack_quiet (u : Crack) (s : State) : Quiet s { s with crack := u } := by constructor <;> intros <;> rfl

theorem link_quiet (k : Link) (s : State) : Quiet s { s with link := k } := by constructor <;> intros <;> rfl

theorem timers_quiet (k : Timers) (s : State) : Quiet s { s with timers := k } := by constructor <;> intros <;> rfl

theorem setPeers_quiet (es : List Peer) (s : State) : Quiet s (setPeers es s) := by constructor <;> intros <;> rfl

/-- Work repeated over a list. -/
theorem foldl_reflTransGen {α : Type} {r : State → State → Prop} {f : State → α → State}
    (h : ∀ s x, Relation.ReflTransGen r s (f s x)) (xs : List α) (s : State) :
    Relation.ReflTransGen r s (xs.foldl f s) := by
  induction xs generalizing s with
  | nil => exact .refl
  | cons x xs ih => exact (h s x).trans (ih _)

theorem pushNotices_moves (ns : List Notice) (s : State) : Moves s (pushNotices ns s) :=
  foldl_reflTransGen (fun s n => (pushNotice_quiet n s).moves) ns s

theorem pulse_moves (c : Cause) (s : State) : Moves s (pulse c s) :=
  (report_moves c true s).trans (report_moves c false _)

/-! ### The hall line and the peers -/

theorem askBreak_moves (s : State) : Moves s (askBreak s) := by
  unfold askBreak
  split
  · exact .refl
  · exact (setLine_quiet (startBreak_holdTime s.line)).moves

theorem evalPeers_moves (s : State) : Moves s (evalPeers s) :=
  ((report_moves _ _ s).trans (report_moves _ _ _)).trans (report_moves _ _ _)

theorem removePeers_moves (why : ForgetReason) (gone : Peer → Bool) (s : State) : Moves s (removePeers why gone s) :=
  ((setPeers_quiet _ s).moves.trans (pushNotices_moves _ _)).trans (evalPeers_moves _)

theorem evalPacing_moves (s : State) : Moves s (evalPacing s) := by
  unfold evalPacing
  split
  · exact (program_quiet _ s).moves
  · exact .refl

theorem pacingAfterReport_moves (g : Nat) (s : State) : Moves s (pacingAfterReport g s) := by
  unfold pacingAfterReport
  split
  · exact evalPacing_moves s
  · exact .refl

theorem takeNewcomer_moves (id : Nat) (r : ReportFields) (s : State) : Moves s (takeNewcomer id r s) := by
  unfold takeNewcomer
  split
  · exact (((setPeers_quiet _ s).moves.trans (pushNotice_quiet _ _).moves).trans (evalPeers_moves _)).trans
      (pacingAfterReport_moves _ _)
  · have counted : Quiet s { s with peers :=
        { s.peers with refusals := saturate 65535 (s.peers.refusals + 1), refusedId := some id } } := by
      constructor <;> intros <;> rfl
    simp only
    split
    · exact counted.moves
    · exact counted.moves.trans (pushNotice_quiet _ _).moves

theorem takeKnownReport_moves (e : Peer) (r : ReportFields) (s : State) : Moves s (takeKnownReport e r s) := by
  unfold takeKnownReport
  split
  · exact (setPeers_quiet _ s).moves
  · exact (((setPeers_quiet _ s).moves.trans (pushNotices_moves _ _)).trans (evalPeers_moves _)).trans
      (pacingAfterReport_moves _ _)

theorem applyNotice_moves (before after : Peer) (s : State) : Moves s (applyNotice before after s) :=
  ((setPeers_quiet _ s).moves.trans (pushNotices_moves _ _)).trans (evalPeers_moves _)

theorem takePeerFrame_moves (f : Frame) (s : State) : Moves s (takePeerFrame f s) := by
  unfold takePeerFrame
  split
  · exact takeKnownReport_moves _ _ s
  · split
    · exact takeNewcomer_moves _ _ s
    · exact .refl
  · split
    · exact applyNotice_moves _ _ s
    · exact .refl
  · split
    · exact applyNotice_moves _ _ s
    · exact .refl
  · exact .refl
  · exact .refl

@[simp] theorem told_holdTime (space carrier : Bool) (l : Line) : (l.told space carrier).holdTime = l.holdTime := by
  unfold Line.told; split <;> rfl

@[simp] theorem returnToMark_holdTime (l : Line) : (returnToMark l).holdTime = l.holdTime := by simp [returnToMark]

@[simp] theorem setSlotCounts_holdTime (n : SlotName) (k : SlotCounts) (l : Line) :
    (setSlotCounts n k l).holdTime = l.holdTime := by cases n <;> rfl

@[simp] theorem releaseToRest_holdTime (id : Nat) (l : Line) : (releaseToRest id l).holdTime = l.holdTime := rfl

@[simp] theorem lineAfterChars_holdTime (chars : List Byte) (stop : StopBit) (noisy : Bool) (l : Line) :
    (lineAfterChars chars stop noisy l).holdTime = l.holdTime := by
  unfold lineAfterChars
  simp only
  split <;> simp

theorem startAttempt_moves (s : State) : Moves s (startAttempt s) := by
  unfold startAttempt
  split
  · exact (setLine_quiet (by simp)).moves
  · exact .refl

theorem finishAttempt_moves (s : State) : Moves s (finishAttempt s) := by
  unfold finishAttempt
  split
  · exact (setLine_quiet (by simp)).moves
  · exact .refl

theorem backOff_quiet (f : Flight) (s : State) : Quiet s (backOff f s) := by
  unfold backOff
  simp only
  split
  · exact setLine_quiet (by simp)
  · split <;> exact setLine_quiet (by simp)

theorem contend_moves (bit : Nat) (s : State) : Moves s (contend bit s) := by
  unfold contend
  split
  next f _ =>
    have heard : Moves s (hearContention s) := (setLine_quiet (by simp)).moves
    simp only
    split
    · exact heard.trans (setLine_quiet (by simp)).moves
    · split
      · exact heard.trans (setLine_quiet (by simp)).moves
      · exact heard.trans (backOff_quiet f _).moves
  · exact .refl

theorem endBackoff_moves (s : State) : Moves s (endBackoff s) := by
  unfold endBackoff
  split
  · exact (setLine_quiet (by rfl)).moves
  · exact (setLine_quiet (by rfl)).moves
  · exact .refl

theorem endBreak_moves (s : State) : Moves s (endBreak s) := by
  unfold endBreak
  split
  · split
    · exact (setLine_quiet (by rfl)).moves
    · exact (setLine_quiet (by rfl)).moves
  · exact .refl

theorem takeFrame_moves (bytes : List Byte) (s : State) : Moves s (takeFrame bytes s) := by
  unfold takeFrame
  split
  · exact (setLine_quiet (by rfl)).moves
  · exact (setLine_quiet (by rfl)).moves
  · split
    · exact pulse_moves _ s
    · exact takePeerFrame_moves _ s

theorem takeChars_moves (chars : List Byte) (stop : StopBit) (s : State) : Moves s (takeChars chars stop s) := by
  unfold takeChars
  split
  · exact (setLine_quiet (by rfl)).moves
  · split
    · exact (setLine_quiet (by rfl)).moves
    · split
      · split
        · exact takeFrame_moves _ s
        · exact (setLine_quiet (by rfl)).moves
      · exact (setLine_quiet (by rfl)).moves

theorem receiveChars_moves (chars : List Byte) (stop : StopBit) (noisy : Bool) (s : State) :
    Moves s (receiveChars chars stop noisy s) := by
  unfold receiveChars
  split
  · exact .refl
  · have heard : Moves s (setLine (lineAfterChars chars stop noisy s.line) s) := (setLine_quiet (by simp)).moves
    simp only
    split
    · exact heard
    · exact heard.trans (takeChars_moves chars stop _)

theorem recogniseBreak_moves (s : State) : Moves s (recogniseBreak s) := by
  unfold recogniseBreak
  split
  · exact .refl
  · exact (setLine_quiet (by simp)).moves.trans (pulse_moves _ _)

theorem resumeHunt_moves (s : State) : Moves s (resumeHunt s) := by
  unfold resumeHunt
  split
  · exact .refl
  · split
    · exact .refl
    · exact (setLine_quiet (by simp)).moves

theorem falseStarted_moves (noisy : Bool) (s : State) : Moves s (falseStarted noisy s) := by
  unfold falseStarted
  split
  · exact .refl
  · split
    · exact .refl
    · exact (setLine_quiet (by rfl)).moves

theorem markReturned_moves (s : State) : Moves s (markReturned s) := by
  unfold markReturned
  split
  · exact .refl
  · exact (setLine_quiet (by simp)).moves

/-! ### The strain unit and the crack unit -/

theorem evalDrift_moves (s : State) : Moves s (evalDrift s) := report_moves _ _ s

theorem abandonZeroing_moves (i : Fin 32) (why : AbandonReason) (s : State) : Moves s (abandonZeroing i why s) := by
  unfold abandonZeroing
  split
  · exact .refl
  · exact (strain_quiet _ s).moves.trans (pushNotice_quiet _ _).moves

/-- A zero offset is no part of any entry's class (R4). -/
theorem classOf_zeroOffset (st : Settings) (i : Fin 32) (offset : Int) (c : Cause) :
    classOf { st with strain := st.strain.set i { st.strain[i] with zeroOffset := offset } } c = classOf st c := by
  cases c with
  | strain j =>
    simp only [classOf, Fin.getElem_fin, Vector.getElem_set]
    by_cases h : i.val = j.val <;> simp [h]
  | _ => rfl

theorem feedZeroing_moves (i : Fin 32) (r : Int) (s : State) : Moves s (feedZeroing i r s) := by
  unfold feedZeroing
  split
  · exact .refl
  next z _ =>
    split
    · exact (strain_quiet _ s).moves
    · have offset : ∀ (o : Int) (t : State), Quiet t { t with
          settings := { t.settings with
            strain := t.settings.strain.set i { t.settings.strain[i] with zeroOffset := o } } } := fun o t =>
        { Quiet.refl t with classes := classOf_zeroOffset t.settings i o }
      exact ((strain_quiet _ s).moves.trans (offset (roundDiv (z.sum + r) 64) _).moves).trans
        (pushNotice_quiet _ _).moves

theorem feedDrift_moves (i : Fin 32) (v : Int) (s : State) : Moves s (feedDrift i v s) := by
  unfold feedDrift
  split
  · exact (strain_quiet _ s).moves
  · exact .refl

theorem takeStrainValue_moves (i : Fin 32) (r : Int) (s : State) : Moves s (takeStrainValue i r s) :=
  (((((strain_quiet _ s).moves.trans (report_moves _ _ _)).trans (strain_quiet _ _).moves).trans
    (feedZeroing_moves i r _)).trans (feedDrift_moves i _ _))

theorem takeStrainFault_moves (i : Fin 32) (s : State) : Moves s (takeStrainFault i s) :=
  (((strain_quiet _ s).moves.trans (abandonZeroing_moves i .fault _)).trans (report_moves _ _ _)).trans
    (strain_quiet _ _).moves

theorem takeStrainSample_moves (i : Fin 32) (v : BitVec 24) (s : State) : Moves s (takeStrainSample i v s) := by
  unfold takeStrainSample
  split
  · split
    · exact takeStrainFault_moves i s
    · exact takeStrainValue_moves i _ s
  · exact .refl

theorem cycleBegin_moves (seq : BitVec 16) (watch : Bool) (s : State) : Moves s (cycleBegin seq watch s) := by
  unfold cycleBegin
  split
  · exact (strain_quiet _ s).moves.trans (evalDrift_moves _)
  · exact (strain_quiet _ s).moves

theorem cycleClose_moves (close : CycleClose) (watch : Bool) (s : State) : Moves s (cycleClose close watch s) := by
  unfold cycleClose
  split
  · exact ((strain_quiet _ s).moves.trans (pushNotices_moves _ _)).trans (evalDrift_moves _)
  · exact .refl

theorem evalCrack_moves (i : Fin 8) (s : State) : Moves s (evalCrack true i s) := report_moves _ _ s

theorem storeHit_moves (i : Fin 8) (h : Hit) (felicity truncated : Bool) (s : State) :
    Moves s (storeHit i h felicity truncated s) := by
  unfold storeHit
  split
  · simp only
    split
    · exact (crack_quiet _ s).moves.trans (pushNotice_quiet _ _).moves
    · exact (crack_quiet _ s).moves
  · exact (crack_quiet _ s).moves

theorem finishHit_moves (i : Fin 8) (h : Hit) (truncated : Bool) (s : State) : Moves s (finishHit i h truncated s) :=
  ((((crack_quiet _ s).moves.trans (storeHit_moves i h _ truncated _)).trans (crack_quiet _ _).moves).trans
    (pushNotices_moves _ _)).trans (evalCrack_moves i _)

theorem takeEnvelope_moves (i : Fin 8) (v : Byte) (s : State) : Moves s (takeEnvelope i v s) := by
  have faulted : Moves s (faultSensor i s) := by
    unfold faultSensor
    split
    · exact .refl
    · exact .refl
    all_goals exact (crack_quiet _ s).moves.trans (pushNotice_quiet _ _).moves
  have stepped : ∀ amp h, Moves s (stepHit i amp h s) := fun amp h => by
    unfold stepHit
    simp only
    split
    · exact (crack_quiet _ s).moves
    · exact (crack_quiet _ s).moves.trans (finishHit_moves i _ _ _)
  unfold takeEnvelope
  split
  · split
    · exact faulted
    · split
      · exact .refl
      · split
        · exact (crack_quiet _ s).moves
        · exact .refl
      · exact stepped _ _
      · exact (crack_quiet _ s).moves
      · exact .refl
  · exact .refl

theorem closeRateWindow_moves (s : State) : Moves s (closeRateWindow s) :=
  foldl_reflTransGen (fun s i => (crack_quiet _ s).moves.trans (evalCrack_moves i _)) _ s

/-! ### The program unit -/

theorem takeIntoFlight_moves (s : State) : Moves s (takeIntoFlight s) := by
  rw [takeIntoFlight_eq]; exact (program_quiet _ s).moves

theorem starvedTest_moves (s : State) : Moves s (starvedTest s) := by
  unfold starvedTest
  split
  · exact (program_quiet _ s).moves.trans (pushNotice_quiet _ _).moves
  · exact .refl

theorem completeSegment_moves (seg : Segment) (s : State) : Moves s (completeSegment seg s) := by
  have next : Moves s (takeIntoFlight (pushNotice (.segmentDone seg.seq seg.body.kind false) (retireHead seg s))) :=
    ((program_quiet _ s).moves.trans (pushNotice_quiet _ _).moves).trans (takeIntoFlight_moves _)
  unfold completeSegment
  simp only
  split
  · exact (next.trans (pulse_moves _ _)).trans (starvedTest_moves _)
  · exact next.trans (starvedTest_moves _)

theorem skipSegment_moves (seg : Segment) (s : State) : Moves s (skipSegment seg s) :=
  (((program_quiet _ s).moves.trans (pushNotice_quiet _ _).moves).trans (pulse_moves _ _)).trans
    (takeIntoFlight_moves _)

theorem setFlight_moves (g : Generator) (s : State) : Moves s (setFlight g s) := (program_quiet _ s).moves

theorem setSetpoint_moves (v : Int) (s : State) : Moves s (setSetpoint v s) := (program_quiet _ s).moves

theorem closeCycle_moves (seg : Segment) (mean : Int) (count done : Nat) (watch interrupted : Bool) (s : State) :
    Moves s (closeCycle seg mean count done watch interrupted s) := by
  have closed := ((setSetpoint_moves (mean * 256) s).trans (setFlight_moves (.cycle true 0 (done + 1) false) _)).trans
    (cycleClose_moves ⟨seg.seq, done + 1, interrupted⟩ watch _)
  unfold closeCycle
  simp only
  split
  · exact closed.trans (completeSegment_moves seg _)
  · exact closed

theorem stepCycle_moves (seg : Segment) (mean : Int) (amplitude quarter count : Nat) (watch : Bool) (phase done : Nat)
    (interrupted : Bool) (s : State) :
    Moves s (stepCycle seg mean amplitude quarter count watch phase done interrupted s) := by
  unfold stepCycle
  split
  · exact (program_quiet _ s).moves
  · simp only
    split
    · exact (program_quiet _ s).moves.trans (closeCycle_moves _ _ _ _ _ _ _)
    · exact ((program_quiet _ s).moves.trans (setSetpoint_moves _ _)).trans (setFlight_moves _ _)

theorem stepSegment_moves (seg : Segment) (g : Generator) (s : State) : Moves s (stepSegment seg g s) := by
  unfold stepSegment
  split
  · unfold stepRamp
    simp only
    split
    · exact (setSetpoint_moves _ s).trans (completeSegment_moves seg _)
    · exact setSetpoint_moves _ s
  · unfold stepDwell
    simp only
    split
    · exact (setFlight_moves _ s).trans (completeSegment_moves seg _)
    · exact setFlight_moves _ s
  · unfold beginCycle
    split
    · exact skipSegment_moves seg s
    · exact ((setSetpoint_moves _ s).trans (setFlight_moves _ _)).trans (cycleBegin_moves _ _ _)
  · exact stepCycle_moves _ _ _ _ _ _ _ _ _ s
  · exact .refl

theorem programExpiry_moves (s : State) : Moves s (programExpiry s) := by
  have derated : Moves s (derateProgram s) := (program_quiet _ s).moves
  unfold programExpiry
  simp only
  split
  · split
    · exact derated.trans (stepSegment_moves _ _ _)
    · exact derated
  · exact derated

/-! ### The servo loop -/

/-- A servo with the same control values is quiet. -/
theorem servo_quiet {v : Servo} {s : State} (h : SameControl s.servo v) : Quiet s { s with servo := v } :=
  { Quiet.refl s with
    valve := h.valve, integrator := h.integrator, satDir := h.satDir, satCount := h.satCount
    followCount := h.followCount }

theorem takeLoad_moves (v : BitVec 24) (s : State) : Moves s (takeLoad v s) := by
  unfold takeLoad
  split
  · exact .refl
  · simp only
    exact (servo_quiet (by constructor <;> rfl)).moves.trans (report_moves _ _ _)

theorem takeDisplacement_moves (v : BitVec 24) (s : State) : Moves s (takeDisplacement v s) := by
  unfold takeDisplacement
  split
  · exact .refl
  · simp only
    exact (servo_quiet (by constructor <;> rfl)).moves.trans (report_moves _ _ _)

theorem staleStage_moves (s : State) : Moves s (staleStage s) :=
  (servo_quiet (v := countStale s.servo) ⟨rfl, rfl, rfl, rfl, rfl⟩).moves.trans (report_moves _ _ _)

theorem targetStage_quiet (s : State) : Quiet s (targetStage s) := by
  unfold targetStage
  split <;> exact servo_quiet (by constructor <;> rfl)

@[simp] theorem targetStage_posture (s : State) : (targetStage s).posture = s.posture := (targetStage_quiet s).posture

theorem loopStage_moves {s : State} (hi : s.posture ≠ .idle) (hs : s.posture ≠ .safe) : Moves s (loopStage s) :=
  ((Relation.ReflTransGen.single (.loop hi hs)).trans (report_moves _ _ _)).trans (report_moves _ _ _)

theorem settleStage_moves (s : State) : Moves s (settleStage s) := by
  unfold settleStage
  split
  · exact .refl
  · split
    · exact (servo_quiet (by constructor <;> rfl)).moves
    · exact (servo_quiet (by constructor <;> rfl)).moves.trans (.single (.settled _))

theorem controlPeriod_moves (s : State) : Moves s (controlPeriod s) := by
  have before : Moves s (beforeLoop s) :=
    ((timers_quiet _ s).moves.trans (staleStage_moves _)).trans (programExpiry_moves _)
  unfold controlPeriod
  simp only
  split
  next h => exact before.trans (.single (.shut h))
  next h =>
    push Not at h
    have looped : Moves (beforeLoop s) (loopToStage8 (beforeLoop s)).1 :=
      (targetStage_quiet _).moves.trans (loopStage_moves (by simpa using h.1) (by simpa using h.2))
    split
    · exact (before.trans looped).trans (settleStage_moves _)
    · exact before.trans looped

/-! ### Settings -/

theorem idChanged_moves (s : State) : Moves s (idChanged s) := by
  unfold idChanged
  simp only
  refine (setLine_quiet ?_).moves.trans (removePeers_moves _ _ _)
  split
  · rfl
  · simp

theorem strainEnabled_moves (i : Fin 32) (s : State) : Moves s (strainEnabled i s) := by
  unfold strainEnabled
  simp only
  split
  · exact (strain_quiet _ s).moves.trans (strain_quiet _ _).moves
  · exact (strain_quiet _ s).moves

theorem strainEnableChanged_moves (i : Fin 32) (s : State) : Moves s (strainEnableChanged i s) := by
  have turned : Moves s (if s.settings.strain[i].enable then strainEnabled i s else strainDisabled i s) := by
    split
    · exact strainEnabled_moves i s
    · exact (strain_quiet _ s).moves.trans (abandonZeroing_moves i .disabled _)
  exact ((turned.trans (report_moves _ _ _)).trans (strain_quiet _ _).moves).trans (evalDrift_moves _)

theorem driftWatchChanged_moves (i : Fin 32) (s : State) : Moves s (driftWatchChanged i s) := by
  unfold driftWatchChanged
  split
  · exact (strain_quiet _ s).moves.trans (evalDrift_moves _)
  · exact evalDrift_moves s

theorem dropAck_moves {c : Cause} (hc : c ≠ .peerHold) (s : State) : Moves s (dropAck c s) :=
  .single (.work (.store c _ rfl fun h => absurd h hc))

theorem lineModeChanged_moves (i : Fin 4) (s : State) : Moves s (lineModeChanged i s) := by
  unfold lineModeChanged
  split
  · exact dropAck_moves (by simp) s
  · exact .refl

theorem crackModeChanged_moves (i : Fin 8) (s : State) : Moves s (crackModeChanged i s) := by
  unfold crackModeChanged
  split
  · exact (dropAck_moves (by simp) s).trans (crack_quiet _ (dropAck (.crack i) s)).moves
  · exact .refl

theorem withIndex_moves {n : Nat} {f : Fin n → State → State} (h : ∀ i s, Moves s (f i s)) (index : Nat) (s : State) :
    Moves s (withIndex n index f s) := by
  unfold withIndex
  split
  · exact h _ s
  · exact .refl

theorem settingChanged_moves (number index : Nat) (s : State) : Moves s (settingChanged number index s) := by
  unfold settingChanged
  split
  · exact idChanged_moves s
  · exact removePeers_moves _ _ s
  · exact (program_quiet _ s).moves
  · exact (program_quiet _ s).moves
  · exact (program_quiet _ s).moves
  · exact report_moves _ _ s
  · exact report_moves _ _ s
  · exact report_moves _ _ s
  · exact withIndex_moves (fun _ s => report_moves _ _ s) index s
  · exact withIndex_moves lineModeChanged_moves index s
  · exact withIndex_moves strainEnableChanged_moves index s
  · exact (strain_quiet _ s).moves
  · exact withIndex_moves (fun _ s => report_moves _ _ s) index s
  · exact withIndex_moves driftWatchChanged_moves index s
  · exact evalDrift_moves s
  · exact withIndex_moves (fun _ s => (crack_quiet _ s).moves) index s
  · exact withIndex_moves evalCrack_moves index s
  · exact withIndex_moves crackModeChanged_moves index s
  · exact .refl

/-! ### Commands -/

theorem cmdSet_moves (number index : Nat) (v : Int) (s : State) : Moves s (cmdSet number index v s).1 := by
  unfold cmdSet
  split
  · exact .refl
  next hp =>
    split
    · exact .refl
    · unfold accept applySetting
      simp only
      split
      · exact .refl
      · exact (Relation.ReflTransGen.single (.settings _ (Decidable.not_not.mp hp))).trans (settingChanged_moves _ _ _)

theorem cmdStart_moves (s : State) : Moves s (cmdStart s).1 := by
  unfold cmdStart
  split
  · exact .refl
  next hp =>
    split
    · exact .refl
    next hc => exact .single (.start (Decidable.not_not.mp hp) hc)

theorem cmdResume_moves (s : State) : Moves s (cmdResume s).1 := by
  unfold cmdResume
  split
  · exact .refl
  next hp =>
    split
    · exact .refl
    next hn => exact .single (.resume (Decidable.not_not.mp hp) (by simpa using hn))

theorem cmdClear_moves (s : State) : Moves s (cmdClear s).1 := by
  unfold cmdClear
  split
  · exact .refl
  · exact .refl
  · exact .refl
  next hp => exact .single (.clear (.inl hp))
  next hp =>
    split
    · exact .refl
    · exact .single (.clear (.inr hp))

theorem cmdAppend_moves (seg : SegReq) (inspect : Bool) (s : State) : Moves s (cmdAppend seg inspect s).1 := by
  unfold cmdAppend
  split
  · exact .refl
  · split
    · exact .refl
    · split
      · exact .refl
      · exact (program_quiet _ s).moves.trans (takeIntoFlight_moves _)

theorem acknowledge_work (exit : Bool) (c : Cause) (s : State) :
    Relation.ReflTransGen (CauseWork exit) s (acknowledge exit c s) := by
  have acked := Relation.ReflTransGen.single (ackEntry_work exit c s)
  unfold acknowledge passAck
  split
  · exact (acked.tail (.quiet (crack_quiet _ _))).trans (reportWith_work exit _ _ _)
  · exact acked

theorem acknowledge_moves (c : Cause) (s : State) : Moves s (acknowledge true c s) :=
  Relation.ReflTransGen.lift id (fun _ _ => Move.work) _ _ (acknowledge_work true c s)

theorem acknowledgeAll_moves (s : State) : Moves s (acknowledgeAll s) :=
  .single (.acknowledged _ (foldl_reflTransGen (fun s c => acknowledge_work false c s) Cause.all s))

theorem cmdAckAll_moves (s : State) : Moves s (cmdAckAll s).1 := by
  simp only [cmdAckAll, accept]; exact acknowledgeAll_moves s

theorem cmdAck_moves (kind index : Nat) (s : State) : Moves s (cmdAck kind index s).1 := by
  unfold cmdAck
  split
  · exact acknowledge_moves _ s
  · exact .refl

theorem cmdForget_moves (id : Nat) (s : State) : Moves s (cmdForget id s).1 := by
  unfold cmdForget
  split
  · exact .refl
  · unfold accept forgetPeer
    simp only
    split
    · exact removePeers_moves _ _ s
    · exact .refl

theorem cmdGet_moves (number index : Nat) (s : State) : Moves s (cmdGet number index s).1 := by
  unfold cmdGet; split <;> exact .refl

theorem cmdHold_moves (s : State) : Moves s (cmdHold s).1 := by
  unfold cmdHold
  split
  · exact pulse_moves _ s
  · exact pulse_moves _ s
  all_goals exact .refl

theorem cmdUnload_moves (s : State) : Moves s (cmdUnload s).1 := by
  unfold cmdUnload
  split
  · exact pulse_moves _ s
  · exact pulse_moves _ s
  · exact pulse_moves _ s
  all_goals exact .refl

theorem cmdFlush_moves (s : State) : Moves s (cmdFlush s).1 := (program_quiet _ s).moves.trans (starvedTest_moves _)

theorem cmdZero_moves (mask : BitVec 32) (s : State) : Moves s (cmdZero mask s).1 := by
  unfold cmdZero; split <;> exact (strain_quiet _ s).moves

theorem cmdClearExtremes_moves (s : State) : Moves s (cmdClearExtremes s).1 := (strain_quiet _ s).moves

theorem cmdClearPeak_moves (s : State) : Moves s (cmdClearPeak s).1 := by
  unfold cmdClearPeak; split <;> exact (servo_quiet (by constructor <;> rfl)).moves

theorem cmdReadHits_moves (s : State) : Moves s (cmdReadHits s).1 := (crack_quiet _ s).moves

theorem cmdReadNotices_moves (s : State) : Moves s (cmdReadNotices s).1 := (link_quiet _ s).moves

theorem cmdReadLine_moves (s : State) : Moves s (cmdReadLine s).1 := (setLine_quiet (by rfl)).moves

theorem cmdReset_moves (s : State) : Moves s (cmdReset s).1 := .single .reset

/-- Every command of the station link is a run of moves. -/
theorem commandBody_moves (c : Instr) (s : State) : Moves s (commandBody c s).1 := by
  cases c with
  | set n i v =>
    rw [show commandBody (.set n i v) = cmdSet n.toNat i.toNat v.toInt from rfl]
    exact cmdSet_moves n.toNat i.toNat v.toInt s
  | get n i => rw [show commandBody (.get n i) = cmdGet n.toNat i.toNat from rfl]; exact cmdGet_moves n.toNat i.toNat s
  | start => rw [show commandBody .start = cmdStart from rfl]; exact cmdStart_moves s
  | hold => rw [show commandBody .hold = cmdHold from rfl]; exact cmdHold_moves s
  | resume => rw [show commandBody .resume = cmdResume from rfl]; exact cmdResume_moves s
  | unload => rw [show commandBody .unload = cmdUnload from rfl]; exact cmdUnload_moves s
  | clear => rw [show commandBody .clear = cmdClear from rfl]; exact cmdClear_moves s
  | append seg inspect =>
    rw [show commandBody (.append seg inspect) = cmdAppend seg inspect from rfl]
    exact cmdAppend_moves seg inspect s
  | flush => rw [show commandBody .flush = cmdFlush from rfl]; exact cmdFlush_moves s
  | ack k i => rw [show commandBody (.ack k i) = cmdAck k.toNat i.toNat from rfl]; exact cmdAck_moves k.toNat i.toNat s
  | ackAll => rw [show commandBody .ackAll = cmdAckAll from rfl]; exact cmdAckAll_moves s
  | zero mask => rw [show commandBody (.zero mask) = cmdZero mask from rfl]; exact cmdZero_moves mask s
  | clearExtremes => rw [show commandBody .clearExtremes = cmdClearExtremes from rfl]; exact cmdClearExtremes_moves s
  | clearPeak => rw [show commandBody .clearPeak = cmdClearPeak from rfl]; exact cmdClearPeak_moves s
  | forget id => rw [show commandBody (.forget id) = cmdForget id.toNat from rfl]; exact cmdForget_moves id.toNat s
  | readHits => rw [show commandBody .readHits = cmdReadHits from rfl]; exact cmdReadHits_moves s
  | readNotices => rw [show commandBody .readNotices = cmdReadNotices from rfl]; exact cmdReadNotices_moves s
  | readLine => rw [show commandBody .readLine = cmdReadLine from rfl]; exact cmdReadLine_moves s
  | reset => rw [show commandBody .reset = cmdReset from rfl]; exact cmdReset_moves s
  | _ => exact .refl

theorem takeMessage_moves {body : State → State × Reply} (h : ∀ s, Moves s (body s).1) (msg : List Byte) (s : State) :
    Moves s (takeMessage msg body s) :=
  ((((report_moves .hostSilent false s).trans (h _)).trans (link_quiet _ _).moves).trans (link_quiet _ _).moves).trans
    (link_quiet _ _).moves

theorem clockResponse_moves (response : List Byte) (n : Nat) (s : State) : Moves s (clockResponse response n s) := by
  unfold clockResponse
  split
  · exact (link_quiet _ s).moves.trans (link_quiet _ _).moves
  · exact (link_quiet _ s).moves

theorem exchange_moves {body : State → State × Reply} (h : ∀ s, Moves s (body s).1) (msg : List Byte) (s : State) :
    Moves s (exchange msg body s) := by
  unfold exchange
  split
  · exact clockResponse_moves _ _ s
  · split
    · exact (link_quiet _ s).moves
    · exact takeMessage_moves h msg s

theorem messageBody_moves (msg : List Byte) (s : State) : Moves s (messageBody msg s).1 := by
  unfold messageBody
  cases parseMessage msg with
  | error code => exact .refl
  | ok c => exact commandBody_moves c s

/-! ### Events and the tick -/

theorem fillReport_moves (s : State) : Moves s (fillReport s) := by
  unfold fillReport
  split
  · exact .refl
  · exact (setLine_quiet (by simp)).moves

theorem reportPeriodLine_moves (s : State) : Moves s (reportPeriodLine s) := by
  unfold reportPeriodLine
  simp only
  refine Relation.ReflTransGen.trans ?_ (fillReport_moves _)
  split
  · exact (timers_quiet _ s).moves.trans (askBreak_moves _)
  · exact (timers_quiet _ s).moves

theorem agingPass_moves (s : State) : Moves s (agingPass s) := by
  have aged := (setPeers_quiet (agedEntries s.settings s.peers.entries) s).moves.trans
    (pushNotices_moves (s.peers.entries.flatMap (ageNotices s.settings)) _)
  exact ((aged.trans (evalPeers_moves _)).tail .trim).trans (evalPacing_moves _)

theorem reportPeriod_moves (s : State) : Moves s (reportPeriod s) := by
  unfold reportPeriod
  exact (reportPeriodLine_moves s).trans (agingPass_moves _)

theorem setPort_quiet (i : Fin 4) (p : PortLine) (s : State) : Quiet s (setPort i p s) := by
  constructor <;> intros <;> rfl

theorem readPending_moves (n : Nat) (s : State) : Moves s (readPending n s) := by
  unfold readPending
  split
  · exact clockResponse_moves _ _ s
  · exact .refl

/-- A row that acts only where its trigger holds (log 4). -/
theorem ite_moves {b : Bool} {s t : State} (h : Moves s t) : Moves s (if b then t else s) := by
  split
  · exact h
  · exact .refl

theorem debounced_moves (line : Fin 4) (s : State) : Moves s (debounced line s) := by
  unfold debounced
  split
  · exact (setPort_quiet line _ s).moves.trans (report_moves _ _ _)
  · exact .refl

theorem expireSilence_moves (s : State) : Moves s (expireSilence s) := by
  unfold expireSilence
  split
  · exact (link_quiet _ s).moves.trans (report_moves _ _ _)
  · exact .refl
  · exact .refl

/-- Every row of the table is a run of moves. -/
theorem exec_moves (i : Instr) (s : State) : ∃ t, exec i s = .next t ∧ Moves s t := by
  cases i with
  | set n i v => exact ⟨_, rfl, exchange_moves (cmdSet_moves n.toNat i.toNat v.toInt) _ s⟩
  | get n i => exact ⟨_, rfl, exchange_moves (cmdGet_moves n.toNat i.toNat) _ s⟩
  | start => exact ⟨_, rfl, exchange_moves (cmdStart_moves) _ s⟩
  | hold => exact ⟨_, rfl, exchange_moves (cmdHold_moves) _ s⟩
  | resume => exact ⟨_, rfl, exchange_moves (cmdResume_moves) _ s⟩
  | unload => exact ⟨_, rfl, exchange_moves (cmdUnload_moves) _ s⟩
  | clear => exact ⟨_, rfl, exchange_moves (cmdClear_moves) _ s⟩
  | append seg inspect => exact ⟨_, rfl, exchange_moves (cmdAppend_moves seg inspect) _ s⟩
  | flush => exact ⟨_, rfl, exchange_moves (cmdFlush_moves) _ s⟩
  | ack k i => exact ⟨_, rfl, exchange_moves (cmdAck_moves k.toNat i.toNat) _ s⟩
  | ackAll => exact ⟨_, rfl, exchange_moves cmdAckAll_moves _ s⟩
  | zero mask => exact ⟨_, rfl, exchange_moves (cmdZero_moves mask) _ s⟩
  | clearExtremes => exact ⟨_, rfl, exchange_moves (cmdClearExtremes_moves) _ s⟩
  | clearPeak => exact ⟨_, rfl, exchange_moves (cmdClearPeak_moves) _ s⟩
  | forget id => exact ⟨_, rfl, exchange_moves (cmdForget_moves id.toNat) _ s⟩
  | readHits => exact ⟨_, rfl, exchange_moves (cmdReadHits_moves) _ s⟩
  | readNotices => exact ⟨_, rfl, exchange_moves (cmdReadNotices_moves) _ s⟩
  | readLine => exact ⟨_, rfl, exchange_moves (cmdReadLine_moves) _ s⟩
  | reset => exact ⟨_, rfl, exchange_moves (cmdReset_moves) _ s⟩
  | powerOnReset => exact ⟨_, rfl, .single .reset⟩
  | unknownCommand m => exact ⟨_, rfl, exchange_moves (messageBody_moves m) m s⟩
  | pendingResponseRead n => exact ⟨_, rfl, readPending_moves n s⟩
  | controlPeriodExpiry => exact ⟨_, rfl, controlPeriod_moves s⟩
  | loadStale => exact ⟨_, rfl, ite_moves (controlPeriod_moves s)⟩
  | settleTimeExceeded => exact ⟨_, rfl, ite_moves (controlPeriod_moves s)⟩
  | reportPeriodExpiry => exact ⟨_, rfl, reportPeriod_moves s⟩
  | chatterWindowExpiry => exact ⟨_, rfl, (timers_quiet _ s).moves.trans (setPeers_quiet _ _).moves⟩
  | rateWindowExpiry => exact ⟨_, rfl, (timers_quiet _ s).moves.trans (closeRateWindow_moves _)⟩
  | hostSilenceExpiry => exact ⟨_, rfl, expireSilence_moves s⟩
  | interlockInputChange l o => exact ⟨_, rfl, (setPort_quiet l _ s).moves⟩
  | debounceExpiry l => exact ⟨_, rfl, debounced_moves l s⟩
  | loadSample v => exact ⟨_, rfl, takeLoad_moves v s⟩
  | displacementSample v => exact ⟨_, rfl, takeDisplacement_moves v s⟩
  | strainSample ch v => exact ⟨_, rfl, takeStrainSample_moves ch v s⟩
  | envelopeSample ch v => exact ⟨_, rfl, takeEnvelope_moves ch v s⟩
  | hitEnd ch v => exact ⟨_, rfl, ite_moves (takeEnvelope_moves ch v s)⟩
  | lockoutEnd ch v => exact ⟨_, rfl, ite_moves (takeEnvelope_moves ch v s)⟩
  | frameReceived cs stop noisy => exact ⟨_, rfl, receiveChars_moves cs stop noisy s⟩
  | breakRecognised => exact ⟨_, rfl, recogniseBreak_moves s⟩
  | receiverHuntResume => exact ⟨_, rfl, resumeHunt_moves s⟩
  | attemptStart => exact ⟨_, rfl, startAttempt_moves s⟩
  | frameSent => exact ⟨_, rfl, finishAttempt_moves s⟩
  | contention bit => exact ⟨_, rfl, contend_moves bit s⟩
  | backoffEnd => exact ⟨_, rfl, endBackoff_moves s⟩
  | breakEnd => exact ⟨_, rfl, endBreak_moves s⟩
  | falseStart noisy => exact ⟨_, rfl, falseStarted_moves noisy s⟩
  | lineReturnsToMark => exact ⟨_, rfl, markReturned_moves s⟩
  | _ => exact ⟨_, rfl, exchange_moves (fun _ => .refl) _ s⟩

theorem passBitTime_quiet (s : State) : Quiet s (passBitTime s) :=
  { Quiet.refl s with holdTime := tick_holdTime s.line }

theorem releaseSelect_quiet (s : State) : Quiet s (releaseSelect s) := by
  unfold releaseSelect
  split
  · constructor <;> intros <;> rfl
  · exact .refl s

theorem takeEdge_quiet (e : HostEdge) (s : State) : Quiet s (takeEdge e s) := by
  cases e with
  | release => exact releaseSelect_quiet s
  | pause => exact .refl s
  | _ => exact link_quiet _ s

theorem tick_moves (s : State) : Moves s (tick s) := by
  unfold tick
  split
  · exact Quiet.moves (by constructor <;> intros <;> rfl)
  · split
    · exact (passBitTime_quiet s).moves
    · exact (link_quiet _ s).moves.trans (passBitTime_quiet _).moves
    · exact (link_quiet _ s).moves.trans (takeEdge_quiet _ _).moves

/-- Every step is a run of moves. -/
theorem step_moves {s t : State} (h : step s = .next t) : Moves s t := by
  unfold step at h
  split at h
  · cases h; exact tick_moves s
  next c rest _ =>
    have dequeued : Quiet s { s with pending := rest } := by constructor <;> intros <;> rfl
    obtain ⟨u, hu, hm⟩ := exec_moves c { s with pending := rest }
    rw [hu] at h
    cases h
    exact dequeued.moves.trans hm

/-- Settles O55: every move keeps the law of causes against postures and, with it, the law of HOLD. -/
theorem everyStepKeepsTheCauseLaw : Obligations.EveryStepKeepsTheCauseLaw :=
  fun _ _ hc hh h => (step_moves h).causeLaw_holdLaw hc hh

theorem Moves.keeps {P : State → Prop} (h : ∀ {s t : State}, Move s t → P s → P t) {s t : State} (m : Moves s t)
    (hs : P s) : P t := by
  induction m with
  | refl => exact hs
  | tail _ m ih => exact h m ih

/-- Settles O56: every move keeps each of the four laws from that law alone. -/
theorem everyStepKeepsRecordsLoopAndTrim : Obligations.EveryStepKeepsRecordsLoopAndTrim :=
  ⟨fun _ _ h k => Moves.keeps Move.recordLaw (step_moves k) h,
    fun _ _ h k => Moves.keeps Move.demandLaw (step_moves k) h,
    fun _ _ h k => Moves.keeps Move.loopLaw (step_moves k) h, fun _ _ h k => Moves.keeps Move.trimLaw (step_moves k) h⟩

end Sys2Proof.Postures

/-! ## Host commands taken in COMMAND phase (R185, R187) -/

namespace Sys2Proof.Postures

open Sys2Proof Sys2Proof.Machine Sys2Proof.Laws Sys2Proof.Safety Sys2Proof.Claims

/-- Two states with the same fields are the same. -/
theorem state_ext {s t : State} (time : s.time = t.time) (settings : s.settings = t.settings)
    (posture : s.posture = t.posture) (causes : s.causes = t.causes) (holdRecord : s.holdRecord = t.holdRecord)
    (unloadRecord : s.unloadRecord = t.unloadRecord) (program : s.program = t.program) (servo : s.servo = t.servo)
    (line : s.line = t.line) (peers : s.peers = t.peers) (strain : s.strain = t.strain) (crack : s.crack = t.crack)
    (ports : s.ports = t.ports) (link : s.link = t.link) (timers : s.timers = t.timers) (draws : s.draws = t.draws)
    (pending : s.pending = t.pending) : s = t := by
  cases s; cases t; simp_all

/-- The station after its command is carried out and answered: the response pending, the host-silence timer restarted,
the bytes of the message clocked (R187). -/
@[irreducible] def afterReply (c : Instr) (code : Byte) (r : Reply) (u : State) : State :=
  noteSent (List.replicate (message code (commandParams c)).length 0#8) (composeResponse code r (restartSilence u))

/-- A command taken with nothing else to do first is its body and its answer (R187). -/
theorem sendCommand_ready {c : Instr} {code : Byte} (hc : commandCode c = some code) {s : State} (h : Ready s)
    (body : State → State × Reply) : sendCommand c body s = afterReply c code (body s).2 (body s).1 := by
  rw [sendCommand_inCommand hc h.1, takeMessage, carryOut_quiet _ _ h.2, message_code]
  unfold afterReply; rfl

section
variable (c : Instr) (code : Byte) (r : Reply) (u : State)

@[simp] theorem afterReply_time : (afterReply c code r u).time = u.time := by unfold afterReply; rfl
@[simp] theorem afterReply_settings : (afterReply c code r u).settings = u.settings := by unfold afterReply; rfl
@[simp] theorem afterReply_posture : (afterReply c code r u).posture = u.posture := by unfold afterReply; rfl
@[simp] theorem afterReply_causes : (afterReply c code r u).causes = u.causes := by unfold afterReply; rfl
@[simp] theorem afterReply_holdRecord : (afterReply c code r u).holdRecord = u.holdRecord := by unfold afterReply; rfl
@[simp] theorem afterReply_unloadRecord : (afterReply c code r u).unloadRecord = u.unloadRecord := by
  unfold afterReply; rfl
@[simp] theorem afterReply_program : (afterReply c code r u).program = u.program := by unfold afterReply; rfl
@[simp] theorem afterReply_servo : (afterReply c code r u).servo = u.servo := by unfold afterReply; rfl
@[simp] theorem afterReply_line : (afterReply c code r u).line = u.line := by unfold afterReply; rfl
@[simp] theorem afterReply_peers : (afterReply c code r u).peers = u.peers := by unfold afterReply; rfl
@[simp] theorem afterReply_strain : (afterReply c code r u).strain = u.strain := by unfold afterReply; rfl
@[simp] theorem afterReply_crack : (afterReply c code r u).crack = u.crack := by unfold afterReply; rfl
@[simp] theorem afterReply_ports : (afterReply c code r u).ports = u.ports := by unfold afterReply; rfl
@[simp] theorem afterReply_timers : (afterReply c code r u).timers = u.timers := by unfold afterReply; rfl
@[simp] theorem afterReply_draws : (afterReply c code r u).draws = u.draws := by unfold afterReply; rfl
@[simp] theorem afterReply_pending : (afterReply c code r u).pending = u.pending := by unfold afterReply; rfl
@[simp] theorem afterReply_entry (d : Cause) : (afterReply c code r u).entry d = u.entry d := by unfold afterReply; rfl
@[simp] theorem afterReply_notices : (afterReply c code r u).link.notices = u.link.notices := by unfold afterReply; rfl

/-- The answer stands pending, and the host-silence timer runs anew (R187). -/
theorem afterReply_answers : Answers code r.code r.data (afterReply c code r u) := by
  unfold afterReply; exact ⟨rfl, rfl⟩

end

/-- The link is another's but for its notices. -/
def SameHost (k l : Link) : Prop := l = { k with notices := l.notices }

/-- An answer changes nothing but the link's exchange (R187). -/
theorem afterReply_link {c : Instr} {code : Byte} {r : Reply} {s u : State} (h : SameHost s.link u.link) :
    (afterReply c code r u).link = exchanged s (afterReply c code r u) := by
  have h : u.link = { s.link with notices := u.link.notices } := h
  unfold afterReply
  simp only [noteSent, composeResponse, restartSilence]
  rw [h]

theorem sameHost_refl (k : Link) : SameHost k k := rfl

/-- A command that leaves the state as it is answers, and changes nothing but the link's exchange. -/
theorem answersOnly_of_body {c : Instr} {code : Byte} {body : State → State × Reply} {s : State} {r : Reply}
    (he : exec c s = .next (sendCommand c body s)) (hc : commandCode c = some code) (h : Ready s)
    (hb : body s = (s, r)) : AnswersOnly c code r.code r.data s := by
  rw [sendCommand_ready hc h, hb] at he
  refine ⟨_, he, ?_, afterReply_notices c code r s, afterReply_answers c code r s⟩
  have link : (afterReply c code r s).link = exchanged s (afterReply c code r s) := afterReply_link (sameHost_refl _)
  refine state_ext ?_ ?_ ?_ ?_ ?_ ?_ ?_ ?_ ?_ ?_ ?_ ?_ ?_ link ?_ ?_ ?_ <;> simp

/-- What a command taken answers and leaves. -/
theorem exec_of_body {c : Instr} {code : Byte} {body : State → State × Reply} {s u : State} {r : Reply}
    (he : exec c s = .next (sendCommand c body s)) (hc : commandCode c = some code) (h : Ready s)
    (hb : body s = (u, r)) : exec c s = .next (afterReply c code r u) := by
  rw [he, sendCommand_ready hc h, hb]

/-! ### START (R20) -/

/-- Settles O14: the checks are nested as R20 orders them. -/
theorem startIsRefusedByItsFirstFailingCheck : Obligations.StartIsRefusedByItsFirstFailingCheck := by
  intro s hr hp
  have refused : ∀ {code : RespCode}, startCheck s = some code → AnswersOnly .start 0x10#8 code [] s := fun hcode =>
    answersOnly_of_body (r := ⟨_, []⟩) rfl rfl hr (by simp [cmdStart, hp, hcode, refuse])
  refine ⟨fun h => refused (by simp [startCheck, h]), fun hid hg => ?_⟩
  have named : ¬(s.settings.stationId = 0 ∨ s.settings.group = 0) := by simp [hid, hg]
  refine ⟨fun h => refused ?_, fun h => ⟨fun hs => refused ?_, fun hs => ⟨fun hu => refused ?_, ?_⟩⟩⟩
  · rw [startCheck, if_neg named, if_pos h]
  · rw [startCheck, if_neg named, if_neg (not_not_intro h), if_pos hs]
  · rw [startCheck, if_neg named, if_neg (not_not_intro h), hs, hu]; rfl
  · intro hu c hn hcls hl
    have blocked : s.startBlocked = true := by
      by_contra hb
      rw [(startBlocked_false_iff s).mp (by simpa using hb) c hn hcls] at hl
      cases hl
    refine refused ?_
    rw [startCheck, if_neg named, if_neg (not_not_intro h), hs, hu, blocked]; rfl

theorem startCheck_of_startable {s : State} (h : startable s) : startCheck s = none := by
  obtain ⟨hid, hg, hl, hs, hu, hc⟩ := h
  exact (startCheck_eq_none_iff s).mpr
    ⟨hid, hg, hl, hs, hu, (startBlocked_false_iff s).mpr fun c hn hr => hc c (Cause.mem_all c) hn hr⟩

theorem freshGenerator_eq_firstState (setpoint : Int) (seg : Segment) :
    freshGenerator setpoint seg.body = firstState setpoint seg := by
  unfold freshGenerator firstState; cases seg.body <;> rfl

/-- With none in flight in RUN or HOLD the head of the queue is taken (R34). -/
theorem takeIntoFlight_flight {s : State} (hp : s.posture = .run ∨ s.posture = .hold) (hf : s.program.flight = none) :
    (takeIntoFlight s).program.flight = s.program.queue.head?.map (firstState s.program.setpoint) := by
  unfold takeIntoFlight
  rw [if_pos hp, hf]
  cases s.program.queue with
  | nil => exact hf
  | cons seg rest => simp [freshGenerator_eq_firstState]

/-- A segment in flight stays there (R34). -/
theorem takeIntoFlight_of_flying {s : State} {g : Generator} (hf : s.program.flight = some g) :
    takeIntoFlight s = s := by
  unfold takeIntoFlight
  rw [hf]
  split <;> rfl

@[simp] theorem takeIntoFlight_queue (s : State) : (takeIntoFlight s).program.queue = s.program.queue :=
  (takeIntoFlight_keeps s).queue

@[simp] theorem takeIntoFlight_starved (s : State) : (takeIntoFlight s).program.starved = s.program.starved := by
  unfold takeIntoFlight
  split
  · split <;> rfl
  · rfl

/-- A station in RUN with nothing to run is starved after the test (R43). -/
theorem starvedTest_starved {s : State} (hp : s.posture = .run) (hf : s.program.flight = none)
    (hq : s.program.queue = []) : (starvedTest s).program.starved = true := by
  unfold starvedTest
  split
  · rfl
  next h => simpa [hp, hf, hq] using h

theorem takeIntoFlight_sameHost {k : Link} {s : State} (h : SameHost k s.link) :
    SameHost k (takeIntoFlight s).link := by
  rw [takeIntoFlight_link]; exact h

theorem sameHost_notices {k l : Link} (h : SameHost k l) (ns : List NoticeEntry) :
    SameHost k { l with notices := ns } := by
  have h : l = { k with notices := l.notices } := h
  rw [h]; rfl

theorem starvedTest_sameHost {k : Link} {s : State} (h : SameHost k s.link) : SameHost k (starvedTest s).link := by
  rw [starvedTest_eq]; exact sameHost_notices h _

theorem pushNotice_sameHost {k : Link} {s : State} (n : Notice) (h : SameHost k s.link) :
    SameHost k (pushNotice n s).link := sameHost_notices h _

theorem changePosture_sameHost {k : Link} {s : State} (p : Posture) (c : Option Cause) (o : Option UnloadOutcome)
    (h : SameHost k s.link) : SameHost k (changePosture p c o s).link := sameHost_notices h _

theorem enterRun_sameHost {k : Link} {s : State} (c : Option Cause) (h : SameHost k s.link) :
    SameHost k (enterRun c s).link :=
  starvedTest_sameHost (takeIntoFlight_sameHost (changePosture_sameHost .run c none h))

theorem startHeld_sameHost {k : Link} {s : State} (h : SameHost k s.link) : SameHost k (startHeld s).link :=
  takeIntoFlight_sameHost (changePosture_sameHost .hold none none h)

theorem startHeld_keeps (s : State) : Keeps s (startHeld s) :=
  (((writeHoldRecord_keeps .peerHold s).trans (changePosture_keeps _ _ _ _)).trans (dropDemand_keeps _)).trans
    (takeIntoFlight_keeps _)

section
variable (k : Option Cause) (s : State)

@[simp] theorem enterRun_time : (enterRun k s).time = s.time := (enterRun_keeps k s).time
@[simp] theorem enterRun_strain : (enterRun k s).strain = s.strain := (enterRun_keeps k s).strain
@[simp] theorem enterRun_crack : (enterRun k s).crack = s.crack := (enterRun_keeps k s).crack
@[simp] theorem enterRun_ports : (enterRun k s).ports = s.ports := (enterRun_keeps k s).ports
@[simp] theorem enterRun_timers : (enterRun k s).timers = s.timers := (enterRun_keeps k s).timers
@[simp] theorem enterRun_draws : (enterRun k s).draws = s.draws := (enterRun_keeps k s).draws
@[simp] theorem enterRun_pending : (enterRun k s).pending = s.pending := (enterRun_keeps k s).pending
@[simp] theorem enterRun_queue : (enterRun k s).program.queue = s.program.queue := (enterRun_keeps k s).queue
@[simp] theorem enterRun_setpoint : (enterRun k s).program.setpoint = s.program.setpoint :=
  (enterRun_keeps k s).setpoint

@[simp] theorem startHeld_time : (startHeld s).time = s.time := (startHeld_keeps s).time
@[simp] theorem startHeld_strain : (startHeld s).strain = s.strain := (startHeld_keeps s).strain
@[simp] theorem startHeld_crack : (startHeld s).crack = s.crack := (startHeld_keeps s).crack
@[simp] theorem startHeld_ports : (startHeld s).ports = s.ports := (startHeld_keeps s).ports
@[simp] theorem startHeld_timers : (startHeld s).timers = s.timers := (startHeld_keeps s).timers
@[simp] theorem startHeld_draws : (startHeld s).draws = s.draws := (startHeld_keeps s).draws
@[simp] theorem startHeld_pending : (startHeld s).pending = s.pending := (startHeld_keeps s).pending
@[simp] theorem startHeld_queue : (startHeld s).program.queue = s.program.queue := (startHeld_keeps s).queue
@[simp] theorem startHeld_setpoint : (startHeld s).program.setpoint = s.program.setpoint :=
  (startHeld_keeps s).setpoint

@[simp] theorem prepareStart_time : (prepareStart s).time = s.time := rfl
@[simp] theorem prepareStart_settings : (prepareStart s).settings = s.settings := rfl
@[simp] theorem prepareStart_posture : (prepareStart s).posture = s.posture := rfl
@[simp] theorem prepareStart_causes : (prepareStart s).causes = s.causes := rfl
@[simp] theorem prepareStart_holdRecord : (prepareStart s).holdRecord = none := rfl
@[simp] theorem prepareStart_unloadRecord : (prepareStart s).unloadRecord = none := rfl
@[simp] theorem prepareStart_program :
    (prepareStart s).program = { s.program with setpoint := startCounts s * 256 } := rfl
@[simp] theorem prepareStart_servo : (prepareStart s).servo = { s.servo with
    integrator := 0, valve := 0, target := startCounts s, settle := .notStarted, settleCount := 0 } := rfl
@[simp] theorem prepareStart_line : (prepareStart s).line = s.line := rfl
@[simp] theorem prepareStart_peers : (prepareStart s).peers = { s.peers with trim := 0 } := rfl
@[simp] theorem prepareStart_strain : (prepareStart s).strain = s.strain := rfl
@[simp] theorem prepareStart_crack : (prepareStart s).crack = s.crack := rfl
@[simp] theorem prepareStart_ports : (prepareStart s).ports = s.ports := rfl
@[simp] theorem prepareStart_timers : (prepareStart s).timers = s.timers := rfl
@[simp] theorem prepareStart_draws : (prepareStart s).draws = s.draws := rfl
@[simp] theorem prepareStart_pending : (prepareStart s).pending = s.pending := rfl
@[simp] theorem prepareStart_loadNow : (prepareStart s).loadNow = s.loadNow := rfl

end

/-- The head is taken at an entry into RUN out of a posture that keeps the program as it is (R34). -/
theorem enterRun_flight (c : Option Cause) {s : State} (hf : s.program.flight = none) :
    (enterRun c s).program.flight = s.program.queue.head?.map (firstState s.program.setpoint) := by
  unfold enterRun
  rw [starvedTest_flight, takeIntoFlight_flight (.inl (by simp)) (by simp [hf])]
  simp

theorem enterRun_of_flying (c : Option Cause) {s : State} {g : Generator} (hf : s.program.flight = some g) :
    (enterRun c s).program.flight = some g := by
  unfold enterRun
  rw [starvedTest_flight, takeIntoFlight_of_flying (g := g) (by simp [hf])]
  simp [hf]

theorem enterRun_starved (c : Option Cause) {s : State} (hf : s.program.flight = none) (hq : s.program.queue = []) :
    (enterRun c s).program.starved = true := by
  unfold enterRun
  refine starvedTest_starved (by simp) ?_ (by simp [hq])
  rw [takeIntoFlight_flight (.inl (by simp)) (by simp [hf])]
  simp [hq]

/-- Settles O15: RUN where no peer holds, HOLD where one does, after the same preparation. -/
theorem startRunsOrHolds : Obligations.StartRunsOrHolds := by
  intro s load hr hp hs hload
  have body : cmdStart s = (startStation s, ⟨.ok, []⟩) := by
    simp [cmdStart, hp, startCheck_of_startable hs, accept]
  have hcounts : startCounts s = load := hload ▸ rfl
  have host : SameHost s.link (prepareStart s).link := rfl
  refine ⟨_, exec_of_body rfl rfl hr body, afterReply_answers _ _ _ _, ?_⟩
  cases hh : (s.entry .peerHold).condition with
  | false =>
    have started : startStation s = enterRun none (prepareStart s) := by simp [startStation, hh]
    rw [started]
    have link := afterReply_link (c := .start) (code := 0x10#8) (r := ⟨.ok, []⟩) (enterRun_sameHost none host)
    refine ⟨?_, by simp [hcounts], by simp [hcounts], by simp, fun hf => ?_,
      fun _ => ⟨by simp, by simp, fun hf hq => ?_⟩,
      fun h => by cases h⟩
    · refine state_ext ?_ ?_ ?_ ?_ ?_ ?_ ?_ ?_ ?_ ?_ ?_ ?_ ?_ link ?_ ?_ ?_ <;> simp
    · rw [afterReply_program, enterRun_flight none (s := prepareStart s) hf]
      simp [hcounts]
    · rw [afterReply_program, enterRun_starved none (s := prepareStart s) hf hq]
  | true =>
    have started : startStation s = startHeld (prepareStart s) := by simp [startStation, hh]
    rw [started]
    have link := afterReply_link (c := .start) (code := 0x10#8) (r := ⟨.ok, []⟩) (startHeld_sameHost host)
    refine ⟨?_, by simp [hcounts], by simp [hcounts], by simp, fun hf => ?_, fun h => (by cases h),
      fun _ => ⟨by simp, ?_, ?_⟩⟩
    · refine state_ext ?_ ?_ ?_ ?_ ?_ ?_ ?_ ?_ ?_ ?_ ?_ ?_ ?_ link ?_ ?_ ?_ <;> simp
    · rw [afterReply_program, startHeld, takeIntoFlight_flight (.inr (by simp)) (by simp [hp, hf])]
      simp [hp, hcounts]
    · simp [Program.counts]
    · simp [startHeld, hp]

/-! ### RESUME and CLEAR (R22, R23) -/

/-- Settles O18. -/
theorem resumeReturnsToRun : Obligations.ResumeReturnsToRun := by
  intro s hr hp
  refine ⟨fun h => ?_, fun c hc hl => ?_⟩
  · have none : s.holdLatched = false := (holdLatched_false_iff s).mpr fun c => h c (Cause.mem_all c)
    have body : cmdResume s = (enterRun Option.none s, ⟨.ok, []⟩) := by simp [cmdResume, hp, none, accept]
    refine ⟨_, exec_of_body rfl rfl hr body, afterReply_answers _ _ _ _, by simp, by simp, by simp, by simp, by simp,
      fun hf => ?_, by simp⟩
    obtain ⟨g, hg⟩ := Option.isSome_iff_exists.mp hf
    rw [afterReply_program, enterRun_of_flying Option.none hg, hg]
  · have held : s.holdLatched = true := (holdLatched_iff s).mpr ⟨c, hc, hl⟩
    exact answersOnly_of_body (r := ⟨_, []⟩) rfl rfl hr (by simp [cmdResume, hp, held, refuse])

theorem clearBlocked_iff (s : State) : s.clearBlocked = true ↔ ∃ c, c ≠ .drift ∧
    (classOf s.settings c = .unload ∨ classOf s.settings c = .safe) ∧ (s.entry c).latched = true := by
  simp only [State.clearBlocked, anyLatched_iff, Bool.and_eq_true, Bool.or_eq_true, decide_eq_true_eq]
  exact ⟨fun ⟨c, ⟨hc, hn⟩, hl⟩ => ⟨c, hn, hc, hl⟩, fun ⟨c, hn, hc, hl⟩ => ⟨c, ⟨hc, hn⟩, hl⟩⟩

/-- Everything CLEAR leaves: from SAFE with the posture's notice (R23, R46). -/
theorem clearStation_eq (s : State) : clearStation s =
    { s with
      posture := .idle, program := (clearStation s).program, peers := { s.peers with trim := 0 }
      line := (clearStation s).line, link := { s.link with notices := (clearStation s).link.notices } } := by
  unfold clearStation
  split
  next h => simp [dropDemand, h]
  · rfl

section
variable (s : State)

theorem clearStation_time : (clearStation s).time = s.time := by rw [clearStation_eq]
theorem clearStation_causes : (clearStation s).causes = s.causes := by rw [clearStation_eq]
theorem clearStation_holdRecord : (clearStation s).holdRecord = s.holdRecord := by rw [clearStation_eq]
theorem clearStation_peers : (clearStation s).peers = { s.peers with trim := 0 } := by rw [clearStation_eq]
theorem clearStation_strain : (clearStation s).strain = s.strain := by rw [clearStation_eq]
theorem clearStation_crack : (clearStation s).crack = s.crack := by rw [clearStation_eq]
theorem clearStation_ports : (clearStation s).ports = s.ports := by rw [clearStation_eq]
theorem clearStation_timers : (clearStation s).timers = s.timers := by rw [clearStation_eq]
theorem clearStation_draws : (clearStation s).draws = s.draws := by rw [clearStation_eq]
theorem clearStation_pending : (clearStation s).pending = s.pending := by rw [clearStation_eq]
theorem clearStation_sameHost : SameHost s.link (clearStation s).link := by rw [clearStation_eq]; rfl

end

theorem clearStation_program {s : State} (h : s.posture = .idle ∨ s.posture = .safe) :
    (clearStation s).program = clearProgram s.program := by
  unfold clearStation
  obtain h | h := h <;> simp [h]

/-- Settles O19. -/
theorem clearEmptiesTheProgram : Obligations.ClearEmptiesTheProgram := by
  intro s hr
  refine ⟨fun h => ?_, fun c hp hn hc hl => ?_⟩
  · have resting : s.posture = .idle ∨ s.posture = .safe := h.imp_right And.left
    have body : cmdClear s = (clearStation s, ⟨.ok, []⟩) := by
      obtain hp | ⟨hp, hc⟩ := h
      · simp [cmdClear, hp, accept]
      · have free : s.clearBlocked = false := by
          rw [← Bool.not_eq_true, clearBlocked_iff]
          rintro ⟨c, hn, hcls, hl⟩
          rw [hc c (Cause.mem_all c) hn hcls] at hl
          cases hl
        simp [cmdClear, hp, free, accept]
    have emptied := clearStation_program resting
    refine ⟨_, exec_of_body rfl rfl hr body, afterReply_answers _ _ _ _, ?_, ?_⟩
    · have link := afterReply_link (c := .clear) (code := 0x14#8) (r := ⟨.ok, []⟩) (clearStation_sameHost s)
      refine state_ext ?_ ?_ ?_ ?_ ?_ ?_ ?_ ?_ ?_ ?_ ?_ ?_ ?_ link ?_ ?_ ?_ <;>
        simp [clearStation_time, clearStation_causes, clearStation_holdRecord, clearStation_peers, clearStation_strain,
          clearStation_crack, clearStation_ports, clearStation_timers, clearStation_draws, clearStation_pending]
    · simp [emptied, clearProgram, Program.progress]
  · have blocked : s.clearBlocked = true := (clearBlocked_iff s).mpr ⟨c, hn, hc, hl⟩
    exact answersOnly_of_body (r := ⟨_, []⟩) rfl rfl hr (by simp [cmdClear, hp, blocked, refuse])

/-! ### The resets (R197) -/

theorem resetStation_ports (s : State) (i : Fin 4) : (resetStation s).ports[i] =
    ⟨s.ports[i].inputOpen, false, if s.ports[i].inputOpen then some 10000 else none⟩ := by
  simp [resetStation, resetPort, State.reset, Config.millisecond]

/-- Of the line a notice placed in the hold slot changes the slot and the transmitter at rest (R78, R79). -/
theorem placeHoldNotice_line (c : NoticeContent) (s : State) : (placeHoldNotice c s).line = { s.line with
    holdSlot := (placeHoldNotice c s).line.holdSlot, tx := (placeHoldNotice c s).line.tx } := by
  unfold placeHoldNotice
  simp only
  rw [settleTx_eq]

/-- Of the line the hold demand touches the hold slot, the transmitter at rest, the hold time and the demand's cause
(R121, R122). -/
theorem reviseHoldDemand_line (c : Cause) (s : State) : (reviseHoldDemand c s).line = { s.line with
    holdSlot := (reviseHoldDemand c s).line.holdSlot, tx := (reviseHoldDemand c s).line.tx
    holdTime := (reviseHoldDemand c s).line.holdTime, demandCause := (reviseHoldDemand c s).line.demandCause } := by
  unfold reviseHoldDemand
  split
  · split
    · rw [placeHoldNotice_line]
    · rfl
  · split
    · rfl
    · split
      · rw [placeHoldNotice_line]; rfl
      · rfl

/-- What stands outside the station on the hall line and the station link, and the queue (logs 7, 33 and 41). -/
structure SameOutside (s t : State) : Prop where
  space : t.line.space = s.line.space
  carrier : t.line.carrier = s.line.carrier
  heard : t.line.heard = s.line.heard
  tapped : t.line.tapped = s.line.tapped
  select : t.link.select = s.link.select
  edges : t.link.edges = s.link.edges

theorem SameOutside.trans {a b c : State} (h : SameOutside a b) (k : SameOutside b c) : SameOutside a c :=
  ⟨k.space.trans h.space, k.carrier.trans h.carrier, k.heard.trans h.heard, k.tapped.trans h.tapped,
    k.select.trans h.select, k.edges.trans h.edges⟩

theorem enterRun_sameOutside (k : Option Cause) (s : State) : SameOutside s (enterRun k s) := by
  have host : (enterRun k s).link = { s.link with notices := (enterRun k s).link.notices } :=
    enterRun_sameHost k (sameHost_refl s.link)
  refine ⟨?_, ?_, ?_, ?_, by rw [host], by rw [host]⟩ <;> rw [enterRun_line]

theorem clearLatch_sameOutside (c : Cause) (s : State) : SameOutside s (clearLatch c s) := by
  rw [clearLatch_eq]
  split
  · refine ⟨?_, ?_, ?_, ?_, by rw [reviseHoldDemand_link]; rfl, by rw [reviseHoldDemand_link]; rfl⟩ <;>
      rw [reviseHoldDemand_line] <;> rfl
  · constructor <;> rfl

theorem holdExit_sameOutside (k : Option Cause) (s : State) : SameOutside s (holdExit k s) := by
  unfold holdExit
  split
  · exact enterRun_sameOutside k s
  · constructor <;> rfl

/-- The fall of a condition touches nothing outside the station. -/
theorem report_fall_sameOutside (c : Cause) (s : State) : SameOutside s (report c false s) := by
  have kept : SameOutside s s := ⟨rfl, rfl, rfl, rfl, rfl, rfl⟩
  have stored : ∀ e, SameOutside s (setEntry c e s) := fun e => ⟨rfl, rfl, rfl, rfl, rfl, rfl⟩
  have cleared : ∀ (k : Option Cause) (t : State), SameOutside t (clearEntry true k c t) := fun k t => by
    unfold clearEntry
    split
    · exact (clearLatch_sameOutside c t).trans (holdExit_sameOutside k _)
    · exact clearLatch_sameOutside c t
  unfold report reportWith
  split
  · exact kept
  · simp only [Bool.false_eq_true, if_false]
    unfold onFall
    split
    · exact stored _
    · split
      · exact (stored _).trans (cleared _ _)
      · exact stored _
    · split
      · exact (stored _).trans (cleared _ _)
      · exact stored _

/-- A reset forgets the work of the report that its command brings first (R187, R197). -/
theorem resetStation_report_fall (c : Cause) (s : State) : resetStation (report c false s) = resetStation s := by
  have k := report_keeps c false s
  have o := report_fall_sameOutside c s
  unfold resetStation
  rw [k.ports, k.draws, k.pending, o.space, o.carrier, o.heard, o.tapped, o.select, o.edges]

/-- Settles O31. -/
theorem resetLeavesTheStateAfterReset : Obligations.ResetLeavesTheStateAfterReset := by
  intro s
  refine ⟨resetStation s, rfl, rfl, resetStation_ports s, fun hresponse => ?_⟩
  have taken : exec .reset s = .next (takeMessage (message 0x7F#8 (commandParams .reset)) cmdReset s) :=
    congrArg Host.Outcome.next (sendCommand_inCommand rfl hresponse cmdReset)
  have carried : (carryOut cmdReset s).1 = resetStation s := resetStation_report_fall .hostSilent s
  refine ⟨_, taken, ?_, ?_, ?_, ?_⟩
  · refine state_ext ?_ ?_ ?_ ?_ ?_ ?_ ?_ ?_ ?_ ?_ ?_ ?_ ?_ ?_ ?_ ?_ ?_ <;> simp [carried]
    simp [takeMessage, noteSent, composeResponse, restartSilence, carried]
  · simp [carried]; rfl
  · rw [takeMessage_response, message_code]; rfl
  · simp [carried, resetStation, State.reset, freshSilence]

end Sys2Proof.Postures

/-! ## The HOLD and the UNLOAD command (R13, R14, R16, R17, R21, R121, R122) -/

namespace Sys2Proof.Postures

open Sys2Proof Sys2Proof.Machine Sys2Proof.Laws Sys2Proof.Safety Sys2Proof.Claims

/-- The last of two writes of an entry stands. -/
theorem setEntry_setEntry (c : Cause) (e e' : CauseEntry) (s : State) :
    setEntry c e (setEntry c e' s) = setEntry c e s := by
  simp [setEntry]

/-- An entry with its condition stored. -/
def withCondition (c : Cause) (v : Bool) (s : State) : State := setEntry c { s.entry c with condition := v } s

section
variable (c : Cause) (v : Bool) (s : State)

@[simp] theorem withCondition_time : (withCondition c v s).time = s.time := rfl
@[simp] theorem withCondition_settings : (withCondition c v s).settings = s.settings := rfl
@[simp] theorem withCondition_posture : (withCondition c v s).posture = s.posture := rfl
@[simp] theorem withCondition_holdRecord : (withCondition c v s).holdRecord = s.holdRecord := rfl
@[simp] theorem withCondition_unloadRecord : (withCondition c v s).unloadRecord = s.unloadRecord := rfl
@[simp] theorem withCondition_program : (withCondition c v s).program = s.program := rfl
@[simp] theorem withCondition_servo : (withCondition c v s).servo = s.servo := rfl
@[simp] theorem withCondition_line : (withCondition c v s).line = s.line := rfl
@[simp] theorem withCondition_peers : (withCondition c v s).peers = s.peers := rfl
@[simp] theorem withCondition_strain : (withCondition c v s).strain = s.strain := rfl
@[simp] theorem withCondition_crack : (withCondition c v s).crack = s.crack := rfl
@[simp] theorem withCondition_ports : (withCondition c v s).ports = s.ports := rfl
@[simp] theorem withCondition_link : (withCondition c v s).link = s.link := rfl
@[simp] theorem withCondition_timers : (withCondition c v s).timers = s.timers := rfl
@[simp] theorem withCondition_draws : (withCondition c v s).draws = s.draws := rfl
@[simp] theorem withCondition_pending : (withCondition c v s).pending = s.pending := rfl
@[simp] theorem withCondition_loadNow : (withCondition c v s).loadNow = s.loadNow := rfl

theorem withCondition_entry (d : Cause) : (withCondition c v s).entry d =
    if d = c then { s.entry c with condition := v } else s.entry d := by
  simp only [withCondition, entry_setEntry, eq_comm]

theorem withCondition_held (h : (s.entry c).condition = v) : withCondition c v s = s := by
  subst h; exact setEntry_entry_self c s

theorem withCondition_twice (w : Bool) : withCondition c w (withCondition c v s) = withCondition c w s := by
  simp [withCondition, setEntry_setEntry]

end

/-- The rise of a clear entry latches it (R6, R7, R8). -/
theorem reportWith_rise {exit : Bool} {c : Cause} {s : State} (hc : (s.entry c).condition = false)
    (hl : (s.entry c).latched = false) : reportWith exit c true s = latch c (withCondition c true s) := by
  simp [reportWith, hc, onRise, hl, withCondition]

/-- The rise of a latched entry is stored alone, but for FOLLOWING's in UNLOAD (R6, R7, R8, R17). -/
theorem reportWith_rise_latched {exit : Bool} {c : Cause} {s : State} (hl : (s.entry c).latched = true)
    (hn : ¬(c = .following ∧ s.posture = .unload)) : reportWith exit c true s = withCondition c true s := by
  unfold reportWith
  split
  next h => exact (withCondition_held c true s h).symm
  · simp [onRise, hl, hn, withCondition]

/-- The fall of an EDGE entry is stored alone (R6). -/
theorem reportWith_fall_edge {exit : Bool} {c : Cause} {s : State} (hm : modeOf s.settings c = .edge) :
    reportWith exit c false s = withCondition c false s := by
  unfold reportWith
  split
  next h => exact (withCondition_held c false s h).symm
  · simp [onFall, hm, withCondition]

/-- An EDGE entry that is clear latches at a pulse, and its condition is false again (R6, R21). -/
theorem pulse_of_clear {c : Cause} {s : State} (hm : modeOf s.settings c = .edge) (hc : (s.entry c).condition = false)
    (hl : (s.entry c).latched = false) : pulse c s = withCondition c false (latch c (withCondition c true s)) := by
  unfold pulse report
  rw [reportWith_rise hc hl, reportWith_fall_edge (by simpa using hm)]

/-- A pulse changes nothing of an EDGE entry that is latched, but for FOLLOWING in UNLOAD (R6). -/
theorem pulse_of_latched {c : Cause} {s : State} (hm : modeOf s.settings c = .edge)
    (hc : (s.entry c).condition = false) (hl : (s.entry c).latched = true)
    (hn : ¬(c = .following ∧ s.posture = .unload)) : pulse c s = s := by
  unfold pulse report
  rw [reportWith_rise_latched hl hn, reportWith_fall_edge (by simpa using hm), withCondition_twice,
    withCondition_held c false s hc]

/-- The line is untouched where the entry asks for no break (R12). -/
theorem latchMarked_line {c : Cause} {s : State} (h : hallStopOf s.settings c = false) :
    (latchMarked c s).line = s.line := by
  unfold latchMarked; simp [h]

/-! ### What a latch of each class does where the posture admits it (R13) -/

theorem latch_hold_in_run {c : Cause} {s : State} (hc : classOf s.settings c = .hold) (hp : s.posture = .run) :
    latch c s = reviseHoldDemand c (enterHold c (latchMarked c s)) := by
  rw [latch_eq, if_pos hc, hc, postureOnLatch, latchMarked_posture, hp]

theorem latch_hold_in_hold {c : Cause} {s : State} (hc : classOf s.settings c = .hold) (hp : s.posture = .hold)
    (hn : c ≠ .peerHold) : latch c s = reviseHoldDemand c (requireResume (latchMarked c s)) := by
  rw [latch_eq, if_pos hc, hc, postureOnLatch, latchMarked_posture, hp]
  simp [hn]

theorem latch_unload_enters {c : Cause} {s : State} (hc : classOf s.settings c = .unload)
    (hp : s.posture = .run ∨ s.posture = .hold) : latch c s = enterUnload c (latchMarked c s) := by
  rw [latch_eq, if_neg (by simp [hc]), hc, postureOnLatch, latchMarked_posture]
  obtain hp | hp := hp <;> rw [hp]

theorem latch_unload_in_unload {c : Cause} {s : State} (hc : classOf s.settings c = .unload)
    (hp : s.posture = .unload) (hn : c ≠ .following) : latch c s = appendLater c (latchMarked c s) := by
  rw [latch_eq, if_neg (by simp [hc]), hc, postureOnLatch, latchMarked_posture, hp]
  simp [hn]

theorem latch_safe_enters {c : Cause} {s : State} (hc : classOf s.settings c = .safe)
    (hp : s.posture = .run ∨ s.posture = .hold) : latch c s =
      enterSafe (some c) none (setOutcome .incomplete (writeUnloadRecord c (latchMarked c s))) := by
  rw [latch_eq, if_neg (by simp [hc]), hc, postureOnLatch, latchMarked_posture]
  obtain hp | hp := hp <;> rw [hp]

theorem latch_safe_in_unload {c : Cause} {s : State} (hc : classOf s.settings c = .safe) (hp : s.posture = .unload) :
    latch c s = endUnload (some c) .incomplete (appendLater c (latchMarked c s)) := by
  rw [latch_eq, if_neg (by simp [hc]), hc, postureOnLatch, latchMarked_posture, hp]

/-! ### The hold demand's three changes (R121, R122) -/

theorem fillNotice_eq_placedIn (flying : Bool) (c : NoticeContent) (slot : NoticeSlot) :
    fillNotice flying c slot = placedIn flying c slot := by
  unfold fillNotice placedIn; split <;> rfl

/-- The hold slot after a HOLD NOTICE is placed (R78, R80). -/
theorem placeHoldNotice_holdSlot (c : NoticeContent) (s : State) :
    (placeHoldNotice c s).line.holdSlot = placedIn (s.line.inFlight .hold) c s.line.holdSlot := by
  simp [placeHoldNotice, fillNotice_eq_placedIn]

@[simp] theorem placeHoldNotice_holdTime (c : NoticeContent) (s : State) :
    (placeHoldNotice c s).line.holdTime = s.line.holdTime := by simp [placeHoldNotice]

@[simp] theorem placeHoldNotice_demandCause (c : NoticeContent) (s : State) :
    (placeHoldNotice c s).line.demandCause = s.line.demandCause := by simp [placeHoldNotice]

/-- A demand that rises carries the renew time and its cause, and places its notice (R121, R122). -/
theorem reviseHoldDemand_rises (c : Cause) {s : State} (hp : s.posture = .hold) (ho : s.ownHoldLatched = true)
    (h0 : s.line.holdTime = 0) :
    (reviseHoldDemand c s).line.holdTime = s.settings.holdRenewTime ∧
    (reviseHoldDemand c s).line.demandCause = some c ∧
    (reviseHoldDemand c s).line.holdSlot =
      placedIn (s.line.inFlight .hold) ⟨s.settings.group, s.settings.holdRenewTime, c⟩ s.line.holdSlot := by
  unfold reviseHoldDemand
  rw [if_pos ⟨hp, ho⟩, if_pos h0]
  exact ⟨placeHoldNotice_holdTime _ _, placeHoldNotice_demandCause _ _, placeHoldNotice_holdSlot _ _⟩

/-- A demand that stands stays as it is (R121). -/
theorem reviseHoldDemand_stands (c : Cause) {s : State} (hp : s.posture = .hold) (ho : s.ownHoldLatched = true)
    (h0 : s.line.holdTime ≠ 0) : reviseHoldDemand c s = s := by
  unfold reviseHoldDemand
  rw [if_pos ⟨hp, ho⟩, if_neg h0]

/-- A demand that falls in HOLD places its notice with hold time 0 (R122). -/
theorem reviseHoldDemand_falls (c : Cause) {s : State} (hp : s.posture = .hold) (ho : s.ownHoldLatched = false)
    (h0 : s.line.holdTime ≠ 0) :
    (reviseHoldDemand c s).line.holdTime = 0 ∧ (reviseHoldDemand c s).line.demandCause = none ∧
    (reviseHoldDemand c s).line.holdSlot =
      placedIn (s.line.inFlight .hold) ⟨s.settings.group, 0, c⟩ s.line.holdSlot := by
  unfold reviseHoldDemand
  rw [if_neg (by simp [ho]), if_neg h0, if_pos hp]
  exact ⟨placeHoldNotice_holdTime _ _, placeHoldNotice_demandCause _ _, placeHoldNotice_holdSlot _ _⟩

/-- The demand of a HOLD-class entry that latches in a state that comes to HOLD with the line of before: it rises where
none stood, and otherwise leaves the hold slot (R121, R122). -/
theorem reviseHoldDemand_of_latch {c : Cause} {s m : State} (hp : m.posture = .hold)
    (hcls : classOf m.settings c = .hold) (hn : c ≠ .peerHold) (hl : (m.entry c).latched = true)
    (hs : m.settings = s.settings) (hline : m.line = s.line) :
    (s.line.holdTime = 0 → (reviseHoldDemand c m).line.holdTime = s.settings.holdRenewTime ∧
      (reviseHoldDemand c m).line.demandCause = some c ∧
      (reviseHoldDemand c m).line.holdSlot =
        placedIn (s.line.inFlight .hold) ⟨s.settings.group, s.settings.holdRenewTime, c⟩ s.line.holdSlot) ∧
    (s.line.holdTime ≠ 0 → (reviseHoldDemand c m).line.holdSlot = s.line.holdSlot) := by
  have own : m.ownHoldLatched = true := (ownHoldLatched_iff m).mpr ⟨c, ⟨hcls, hn⟩, hl⟩
  rw [← hs, ← hline]
  exact ⟨reviseHoldDemand_rises c hp own, fun h0 => by rw [reviseHoldDemand_stands c hp own h0]⟩

/-! ### HOLD -/

@[simp] theorem pauseProgram_setpoint (p : Program) : (pauseProgram p).setpoint = p.setpoint :=
  (pauseProgram_fields p).2.2.2.1

theorem enterHold_program_in_run (c : Cause) {s : State} (hp : s.posture = .run) :
    (enterHold c s).program = pauseProgram s.program := by
  unfold enterHold; simp [hp]

/-- Settles O16: the entry latches as in R13, and the hold demand is revised behind it. -/
theorem holdCommandHolds : Obligations.HoldCommandHolds := by
  intro s hr hc
  refine ⟨fun hp hl => ?_, fun hp hl => ?_, fun hp hl => ?_⟩
  · have body : cmdHold s = (withCondition .holdCmd false (reviseHoldDemand .holdCmd
        (enterHold .holdCmd (latchMarked .holdCmd (withCondition .holdCmd true s)))), ⟨.ok, []⟩) := by
      rw [← latch_hold_in_run (c := .holdCmd) (s := withCondition .holdCmd true s) rfl hp,
        ← pulse_of_clear (c := .holdCmd) rfl hc hl]
      simp [cmdHold, hp, accept]
    have demand := reviseHoldDemand_of_latch (c := .holdCmd) (s := s)
      (m := enterHold .holdCmd (latchMarked .holdCmd (withCondition .holdCmd true s))) rfl rfl (by simp)
      (by simp [latchMarked_entry]) (by simp) (latchMarked_line rfl)
    refine ⟨_, exec_of_body rfl rfl hr body, afterReply_answers _ _ _ _, by simp, ?_, ?_, by simp [Program.counts],
      by simpa using demand.1, by simpa using demand.2, ?_, ?_, ?_, by simp, by simp, fun d hd => ?_⟩
    · simp [withCondition_entry, latchMarked_entry]
    · simp [withCondition_entry]
    · simp [enterHold_program_in_run, hp]
    · simp [enterHold_program_in_run, hp, (pauseProgram_fields s.program).2.2.2.2.2.2.1]
    · simp [enterHold_program_in_run, hp, (pauseProgram_fields s.program).2.2.2.2.2.2.2]
    · simp [withCondition_entry, latchMarked_entry, hd]
  · have body : cmdHold s = (withCondition .holdCmd false (reviseHoldDemand .holdCmd
        (requireResume (latchMarked .holdCmd (withCondition .holdCmd true s)))), ⟨.ok, []⟩) := by
      rw [← latch_hold_in_hold (c := .holdCmd) (s := withCondition .holdCmd true s) rfl hp (by simp),
        ← pulse_of_clear (c := .holdCmd) rfl hc hl]
      simp [cmdHold, hp, accept]
    have demand := reviseHoldDemand_of_latch (c := .holdCmd) (s := s)
      (m := requireResume (latchMarked .holdCmd (withCondition .holdCmd true s))) (by simp [hp]) rfl (by simp)
      (by simp [latchMarked_entry]) (by simp) (latchMarked_line rfl)
    refine ⟨_, exec_of_body rfl rfl hr body, afterReply_answers _ _ _ _, by simp [hp], ?_, by simp [requireResume],
      by simp, by simpa using demand.1, by simpa using demand.2, fun d hd => ?_⟩
    · simp [withCondition_entry, latchMarked_entry]
    · simp [withCondition_entry, latchMarked_entry, hd]
  · refine answersOnly_of_body (r := ⟨_, []⟩) rfl rfl hr ?_
    obtain hp | hp := hp <;> simp [cmdHold, hp, accept, pulse_of_latched (c := .holdCmd) rfl hc hl]

/-! ### UNLOAD -/

@[simp] theorem settleTx_inFlight (id : Nat) (l : Line) (n : SlotName) :
    (settleTx id l).inFlight n = l.inFlight n := by
  unfold settleTx
  split <;> try rfl
  all_goals
    simp only [Line.inFlight, restTx, *]
    split
    next h => split at h <;> cases h
    · rfl

/-- A break that starts takes every frame out of flight (R88). -/
theorem askBreak_inFlight {s : State} {n : SlotName} (h : s.line.inFlight n = false) :
    (askBreak s).line.inFlight n = false := by
  unfold askBreak
  split
  · exact h
  · obtain ⟨b, hb⟩ := startBreak_breaks s.line
    simp [Line.inFlight, hb]

theorem latchMarked_inFlight {c : Cause} {s : State} {n : SlotName} (h : s.line.inFlight n = false) :
    (latchMarked c s).line.inFlight n = false := by
  unfold latchMarked
  simp only
  split
  · exact askBreak_inFlight h
  · exact h

@[simp] theorem enterUnload_holdSlot (c : Cause) (s : State) : (enterUnload c s).line.holdSlot = {} := by
  simp [enterUnload, placeUnloadNotice, emptyHoldSlot, dropDemand]

@[simp] theorem enterUnload_demandCause (c : Cause) (s : State) : (enterUnload c s).line.demandCause = none := by
  simp [enterUnload, placeUnloadNotice, dropDemand]

/-- The UNLOAD NOTICE stands pending where none is in flight (R78, R80, R125). -/
theorem enterUnload_unloadSlot (c : Cause) {s : State} (h : s.line.inFlight .unload = false) :
    (enterUnload c s).line.unloadSlot.pending = some (⟨s.settings.group, 0, c⟩, {}) := by
  have flying : (emptyHoldSlot (beginUnload
      (changePosture .unload (some c) none (writeUnloadRecord c s)))).line.inFlight .unload = false := by
    unfold emptyHoldSlot
    simp only
    rw [settleTx_inFlight]
    exact h
  have flying' : (dropDemand (emptyHoldSlot (beginUnload
      (changePosture .unload (some c) none (writeUnloadRecord c s))))).line.inFlight .unload = false := flying
  simp only [enterUnload, placeUnloadNotice, settleTx_unloadSlot, flying', fillNotice, Bool.false_eq_true, if_false]
  rfl

@[simp] theorem enterUnload_queue (c : Cause) (s : State) : (enterUnload c s).program.queue = s.program.queue :=
  (enterUnload_keeps c s).queue

@[simp] theorem enterUnload_setpoint (c : Cause) (s : State) :
    (enterUnload c s).program.setpoint = s.program.setpoint := (enterUnload_keeps c s).setpoint

theorem appendLater_of_room (c : Cause) {s : State} {r : UnloadRecord} (h : s.unloadRecord = some r)
    (hr : r.later.length < 8) : (appendLater c s).unloadRecord = some { r with later := r.later ++ [c] } := by
  rw [appendLater_unloadRecord, h]; simp [Config.laterPlaces, hr]

theorem appendLater_of_full (c : Cause) {s : State} {r : UnloadRecord} (h : s.unloadRecord = some r)
    (hr : 8 ≤ r.later.length) :
    (appendLater c s).unloadRecord = some { r with overflow := min (r.overflow + 1) 255 } := by
  rw [appendLater_unloadRecord, h]; simp [Config.laterPlaces, saturate, Nat.not_lt.mpr hr]

/-- Settles O17. -/
theorem unloadCommandUnloads : Obligations.UnloadCommandUnloads := by
  intro s hr hc
  refine ⟨fun hp hl => ?_, fun hp hl => ?_, fun hp hl => ?_⟩
  · have body : cmdUnload s = (withCondition .unloadCmd false
        (enterUnload .unloadCmd (latchMarked .unloadCmd (withCondition .unloadCmd true s))), ⟨.ok, []⟩) := by
      rw [← latch_unload_enters (c := .unloadCmd) (s := withCondition .unloadCmd true s) rfl hp,
        ← pulse_of_clear (c := .unloadCmd) rfl hc hl]
      obtain hp | hp := hp <;> simp [cmdUnload, hp, accept]
    refine ⟨_, exec_of_body rfl rfl hr body, afterReply_answers _ _ _ _, by simp, ?_, by simp, by simp, by simp,
      by simp, by simp, by simp, by simp, by simp, fun hf => ?_, fun d hd => ?_⟩
    · simp [withCondition_entry, latchMarked_entry]
    · rw [afterReply_line, withCondition_line,
        enterUnload_unloadSlot _ (latchMarked_inFlight (s := withCondition _ _ s) hf)]
      simp
    · simp [withCondition_entry, latchMarked_entry, hd]
  · have body : cmdUnload s = (withCondition .unloadCmd false
        (appendLater .unloadCmd (latchMarked .unloadCmd (withCondition .unloadCmd true s))), ⟨.ok, []⟩) := by
      rw [← latch_unload_in_unload (c := .unloadCmd) (s := withCondition .unloadCmd true s) rfl hp (by simp),
        ← pulse_of_clear (c := .unloadCmd) rfl hc hl]
      simp [cmdUnload, hp, accept]
    refine ⟨_, exec_of_body rfl rfl hr body, afterReply_answers _ _ _ _, by simp [hp], ?_, by simp,
      fun r h hlt => ?_, fun r h hge => ?_, fun d hd => ?_⟩
    · simp [withCondition_entry, latchMarked_entry]
    · rw [afterReply_unloadRecord, withCondition_unloadRecord, appendLater_of_room _ (by simpa using h) hlt]
    · rw [afterReply_unloadRecord, withCondition_unloadRecord, appendLater_of_full _ (by simpa using h) hge]
    · simp [withCondition_entry, latchMarked_entry, hd]
  · refine answersOnly_of_body (r := ⟨_, []⟩) rfl rfl hr ?_
    have still := pulse_of_latched (c := .unloadCmd) rfl hc hl (by simp)
    obtain hp | hp | hp := hp <;> simp [cmdUnload, hp, accept, still]

end Sys2Proof.Postures

/-! ## Acknowledgements (R6 to R9, R15, R121, R122, R181, R182) -/

namespace Sys2Proof.Postures

open Sys2Proof Sys2Proof.Machine Sys2Proof.Laws Sys2Proof.Safety Sys2Proof.Claims

/-! ### The codes of a cause entry (R3, R9) -/

/-- The number of the first entry of each kind (R3). -/
def firstOfKind : List Nat := [0, 0, 8, 40, 41, 45, 46, 47, 48, 49, 50, 51, 52, 53, 54, 55, 56, 57, 58]

theorem number_of_codes (c : Cause) : c.number.val = firstOfKind.getD c.kindCode 0 + c.index := by
  cases c <;> simp [firstOfKind, Cause.number, Cause.kindCode, Cause.index]

/-- A kind code and an index name one entry at most (R3). -/
theorem codes_injective {c d : Cause} (hk : c.kindCode = d.kindCode) (hi : c.index = d.index) : c = d :=
  Cause.number_injective (Fin.ext (by rw [number_of_codes, number_of_codes, hk, hi]))

theorem ofCodes_eq {kind index : Nat} {c : Cause} (hk : kind = c.kindCode) (hi : index = c.index) :
    Cause.ofCodes kind index = some c := by
  have found : (Cause.ofCodes kind index).isSome := by
    rw [Cause.ofCodes, List.find?_isSome]
    exact ⟨c, Cause.mem_all c, by simp [hk, hi]⟩
  obtain ⟨d, hd⟩ := Option.isSome_iff_exists.mp found
  have named := List.find?_some hd
  simp only [Bool.and_eq_true, decide_eq_true_eq] at named
  rw [hd, codes_injective (named.1.trans hk) (named.2.trans hi)]

theorem ofCodes_none {kind index : Nat} (h : ∀ c : Cause, ¬(kind = c.kindCode ∧ index = c.index)) :
    Cause.ofCodes kind index = none := by
  rw [Cause.ofCodes, List.find?_eq_none]
  intro c _ hc
  simp only [Bool.and_eq_true, decide_eq_true_eq] at hc
  exact h c ⟨hc.1.symm, hc.2.symm⟩

/-! ### What a clear can touch -/

/-- Nothing but the posture, the cause table, the program, the line, the crack channels and the notices has changed. -/
structure Confined (s t : State) : Prop where
  time : t.time = s.time
  settings : t.settings = s.settings
  holdRecord : t.holdRecord = s.holdRecord
  unloadRecord : t.unloadRecord = s.unloadRecord
  servo : t.servo = s.servo
  peers : t.peers = s.peers
  strain : t.strain = s.strain
  ports : t.ports = s.ports
  timers : t.timers = s.timers
  draws : t.draws = s.draws
  pending : t.pending = s.pending
  host : SameHost s.link t.link

theorem Confined.refl (s : State) : Confined s s := by constructor <;> rfl

theorem Confined.trans {a b c : State} (h : Confined a b) (k : Confined b c) : Confined a c where
  time := k.time.trans h.time
  settings := k.settings.trans h.settings
  holdRecord := k.holdRecord.trans h.holdRecord
  unloadRecord := k.unloadRecord.trans h.unloadRecord
  servo := k.servo.trans h.servo
  peers := k.peers.trans h.peers
  strain := k.strain.trans h.strain
  ports := k.ports.trans h.ports
  timers := k.timers.trans h.timers
  draws := k.draws.trans h.draws
  pending := k.pending.trans h.pending
  host := by
    have hb : b.link = { a.link with notices := b.link.notices } := h.host
    have hc : c.link = { b.link with notices := c.link.notices } := k.host
    show c.link = { a.link with notices := c.link.notices }
    rw [hc, hb]

/-- The frame of an answered command whose work is confined. -/
theorem Confined.answered {s u : State} (h : Confined s u) (c : Instr) (code : Byte) (r : Reply) :
    afterReply c code r u = { s with
      posture := (afterReply c code r u).posture, causes := (afterReply c code r u).causes
      program := (afterReply c code r u).program, line := (afterReply c code r u).line
      crack := (afterReply c code r u).crack, link := exchanged s (afterReply c code r u) } := by
  have link : (afterReply c code r u).link = exchanged s (afterReply c code r u) := afterReply_link h.host
  refine state_ext ?_ ?_ rfl rfl ?_ ?_ rfl ?_ rfl ?_ ?_ rfl ?_ link ?_ ?_ ?_ <;>
    simp [h.time, h.settings, h.holdRecord, h.unloadRecord, h.servo, h.peers, h.strain, h.ports, h.timers, h.draws,
      h.pending]

theorem Confined.resumeRequired {s t : State} (h : Confined s t) : t.resumeRequired = s.resumeRequired :=
  resumeRequired_congr h.holdRecord

theorem setEntry_confined (c : Cause) (e : CauseEntry) (s : State) : Confined s (setEntry c e s) := by
  constructor <;> rfl

theorem setCrackChannel_confined (i : Fin 8) (c : CrackChannel) (s : State) : Confined s (setCrackChannel i c s) := by
  constructor <;> rfl

theorem enterRun_confined (k : Option Cause) (s : State) : Confined s (enterRun k s) := by
  refine ⟨?_, ?_, ?_, ?_, ?_, ?_, ?_, ?_, ?_, ?_, ?_, enterRun_sameHost k (sameHost_refl _)⟩ <;> simp

theorem holdExit_confined (k : Option Cause) (s : State) : Confined s (holdExit k s) := by
  unfold holdExit
  split
  · exact enterRun_confined k s
  · exact .refl s

theorem clearLatch_sameHost (c : Cause) (s : State) : SameHost s.link (clearLatch c s).link := by
  rw [clearLatch_eq]
  split
  · rw [reviseHoldDemand_link]; exact pushNotice_sameHost _ (sameHost_refl _)
  · exact pushNotice_sameHost _ (sameHost_refl _)

theorem clearLatch_confined (c : Cause) (s : State) : Confined s (clearLatch c s) := by
  have k := clearLatch_keeps c s
  exact ⟨k.time, k.settings, by simp, by simp, by simp, by simp, k.strain, k.ports, k.timers, k.draws, k.pending,
    clearLatch_sameHost c s⟩

theorem clearEntry_confined (exit : Bool) (k : Option Cause) (c : Cause) (s : State) :
    Confined s (clearEntry exit k c s) := by
  unfold clearEntry
  split
  · exact (clearLatch_confined c s).trans (holdExit_confined k _)
  · exact clearLatch_confined c s

/-- An entry that clears with HOLD exit behind it (R9, R11, R15). -/
structure EntryCleared (c : Cause) (s t : State) : Prop where
  confined : Confined s t
  others : ∀ d, d ≠ c → t.entry d = s.entry d
  latched : (t.entry c).latched = false
  calm : classOf s.settings c ≠ .hold → t.posture = s.posture ∧ t.program = s.program ∧ t.line = s.line
  elsewhere : s.posture ≠ .hold → t.posture = s.posture
  runs : s.posture = .hold → classOf s.settings c = .hold → s.resumeRequired = false →
    (∀ d, classOf s.settings d = .hold → (t.entry d).latched = false) → t.posture = .run ∧ t.line.holdTime = 0
  stays : s.posture = .hold →
    (s.resumeRequired = true ∨ ∃ d, classOf s.settings d = .hold ∧ (t.entry d).latched = true) → t.posture = .hold

theorem clearLatch_line_of_other {c : Cause} {s : State} (h : classOf s.settings c ≠ .hold) :
    (clearLatch c s).line = s.line := by
  rw [clearLatch_eq, if_neg h]; rfl

theorem clearEntry_entryCleared (k : Option Cause) (c : Cause) (s : State) :
    EntryCleared c s (clearEntry true k c s) where
  confined := clearEntry_confined true k c s
  others d hd := by rw [clearEntry_entry, if_neg hd]
  latched := by rw [clearEntry_entry, if_pos rfl]
  calm hc := by
    have : clearEntry true k c s = clearLatch c s := by simp [clearEntry, hc]
    rw [this]
    exact ⟨by simp, by simp, clearLatch_line_of_other hc⟩
  elsewhere hp := by
    unfold clearEntry
    split
    · rw [holdExit_posture, clearLatch_posture, if_neg fun h => hp h.1]
    · exact clearLatch_posture c s
  runs hp hc hr hn := by
    have free : (clearLatch c s).holdLatched = false := (holdLatched_false_iff _).mpr fun d hd => by
      have := hn d (by simpa using hd)
      rwa [clearEntry_entry, ← clearLatch_entry] at this
    have exits : clearEntry true k c s = enterRun k (clearLatch c s) := by
      simp [clearEntry, hc, holdExit, hp, free, (clearLatch_confined c s).resumeRequired, hr]
    rw [exits]
    simp
  stays hp h := by
    have free : ¬((clearLatch c s).holdLatched = false ∧ (clearLatch c s).resumeRequired = false) := by
      rw [holdLatched_false_iff, (clearLatch_confined c s).resumeRequired]
      rintro ⟨hn, hr⟩
      obtain h | ⟨d, hd, hl⟩ := h
      · rw [hr] at h; cases h
      · rw [clearEntry_entry, ← clearLatch_entry, hn d (by simpa using hd)] at hl; cases hl
    unfold clearEntry
    split
    · rw [holdExit_posture, if_neg fun h => free h.2, clearLatch_posture, hp]
    · rw [clearLatch_posture, hp]

/-! ### ACK of an entry other than CRACK -/

theorem acknowledge_of_uncracked (exit : Bool) {c : Cause} (h : ∀ ch, c ≠ .crack ch) (s : State) :
    acknowledge exit c s = ackEntry exit c s := by
  unfold acknowledge passAck
  split
  next ch => exact absurd rfl (h ch)
  · rfl

/-- An entry that is clear, or of mode FOLLOW, takes no acknowledgement (R8, R9). -/
theorem ackEntry_idle (exit : Bool) {c : Cause} {s : State}
    (h : (s.entry c).latched = false ∨ modeOf s.settings c = .follow) : ackEntry exit c s = s := by
  unfold ackEntry
  obtain h | h := h
  · simp [h]
  · rw [h]; split <;> rfl

/-- A latched LEVEL entry whose condition is true waits for its fall (R7). -/
theorem ackEntry_pends (exit : Bool) {c : Cause} {s : State} (hl : (s.entry c).latched = true)
    (hm : modeOf s.settings c = .level) (hc : (s.entry c).condition = true) :
    ackEntry exit c s = setEntry c { s.entry c with ackPending := true } s := by
  simp [ackEntry, hl, hm, hc]

/-- A latched EDGE entry, or LEVEL with its condition false, clears (R6, R7). -/
theorem ackEntry_clears (exit : Bool) {c : Cause} {s : State} (hl : (s.entry c).latched = true)
    (h : modeOf s.settings c = .edge ∨ (modeOf s.settings c = .level ∧ (s.entry c).condition = false)) :
    ackEntry exit c s = clearEntry exit none c s := by
  obtain hm | ⟨hm, hc⟩ := h <;> simp [ackEntry, *]

/-- Where the demand falls with the entry, its notice stands in the hold slot, HOLD left or not (R121, R122). -/
theorem clearEntry_demand_falls (k : Option Cause) {c : Cause} {s : State} (hp : s.posture = .hold)
    (hc : classOf s.settings c = .hold) (h0 : s.line.holdTime ≠ 0)
    (ho : ∀ d, d ≠ c → d ≠ .peerHold → classOf s.settings d = .hold → (s.entry d).latched = false) :
    (clearEntry true k c s).line.holdTime = 0 ∧ (clearEntry true k c s).line.demandCause = none ∧
    (clearEntry true k c s).line.holdSlot =
      placedIn (s.line.inFlight .hold) ⟨s.settings.group, 0, c⟩ s.line.holdSlot := by
  have own : (pushNotice (.causeCleared c)
      (setEntry c { s.entry c with latched := false, ackPending := false } s)).ownHoldLatched = false := by
    rw [← Bool.not_eq_true, ownHoldLatched_iff]
    rintro ⟨d, ⟨hd, hn⟩, hl⟩
    by_cases hdc : d = c
    · subst hdc; simp at hl
    · rw [pushNotice_entry, entry_setEntry_other (Ne.symm hdc), ho d hdc hn hd] at hl
      cases hl
  have falls := reviseHoldDemand_falls c (s := pushNotice (.causeCleared c) (setEntry c _ s)) hp own h0
  have exits : clearEntry true k c s = holdExit k (clearLatch c s) := by simp [clearEntry, hc]
  rw [exits, holdExit, clearLatch_eq, if_pos hc]
  split
  · rw [enterRun_line]; exact ⟨rfl, rfl, falls.2.2⟩
  · exact falls

/-- Settles O23. -/
theorem ackActsByTheLatchMode : Obligations.AckActsByTheLatchMode := by
  intro kind index s hr
  have taken : exec (.ack kind index) s =
      .next (sendCommand (.ack kind index) (cmdAck kind.toNat index.toNat) s) := rfl
  refine ⟨fun h => ?_, fun c hk hi hn => ?_⟩
  · exact answersOnly_of_body (r := ⟨_, []⟩) taken rfl hr (by simp [cmdAck, ofCodes_none h, refuse])
  have body : cmdAck kind.toNat index.toNat s = (ackEntry true c s, ⟨.ok, []⟩) := by
    simp [cmdAck, ofCodes_eq hk hi, accept, acknowledge_of_uncracked true hn]
  refine ⟨fun h => ?_, fun hl hm hc => ?_, fun hl h => ?_⟩
  · exact answersOnly_of_body (r := ⟨_, []⟩) taken rfl hr (by rw [body, ackEntry_idle true h])
  · rw [ackEntry_pends true hl hm hc] at body
    have link := afterReply_link (c := .ack kind index) (code := 0x30#8) (r := ⟨.ok, []⟩)
      (setEntry_confined c { s.entry c with ackPending := true } s).host
    refine ⟨_, exec_of_body taken rfl hr body, afterReply_answers _ _ _ _, ?_, by simp, by simp, fun d hd => ?_⟩
    · refine state_ext ?_ ?_ ?_ ?_ ?_ ?_ ?_ ?_ ?_ ?_ ?_ ?_ ?_ link ?_ ?_ ?_ <;> simp
    · rw [afterReply_entry, entry_setEntry_other (Ne.symm hd)]
  · rw [ackEntry_clears true hl h] at body
    have released := clearEntry_entryCleared none c s
    refine ⟨_, exec_of_body taken rfl hr body, afterReply_answers _ _ _ _, ?_, fun d hd => ?_, ?_, fun hc => ?_,
      fun hp => ?_, fun hp hc h0 ho => ?_, fun hp hc hres ho => ?_, fun hp hstay => ?_⟩
    · rw [afterReply_entry, clearEntry_entry, if_pos rfl]
    · rw [afterReply_entry, released.others d hd]
    · have crack : (afterReply (.ack kind index) 0x30#8 ⟨.ok, []⟩ (clearEntry true none c s)).crack = s.crack := by
        rw [afterReply_crack, (clearEntry_keeps true none c s).crack]
      exact (released.confined.answered _ _ _).trans (by rw [crack])
    · simpa using released.calm hc
    · rw [afterReply_posture, released.elsewhere hp]
    · simpa using clearEntry_demand_falls none hp hc h0 ho
    · have clear : ∀ d, classOf s.settings d = .hold → ((clearEntry true none c s).entry d).latched = false :=
        fun d hd => by
          by_cases hdc : d = c
          · rw [hdc, released.latched]
          · rw [released.others d hdc, ho d hdc hd]
      simpa using released.runs hp hc hres clear
    · rw [afterReply_posture, released.stays hp (hstay.imp_right fun ⟨d, hdc, hd, hl⟩ => ⟨d, hd, ?_⟩)]
      rw [released.others d hdc, hl]

end Sys2Proof.Postures

/-! ## The acknowledgement of a CRACK entry, and ACK ALL (R9, R15, R181, R182) -/

namespace Sys2Proof.Postures

open Sys2Proof Sys2Proof.Machine Sys2Proof.Laws Sys2Proof.Safety Sys2Proof.Claims

/-! ### The alarm latch -/

/-- An acknowledgement clears a set latch: in EDGE mode, and where its condition is false (R181). -/
def alarmClears (mode : Mode) (a : Alarm) : Bool := decide (mode = .edge) || !a.condition

theorem ackAlarm_eq {mode : Mode} (hm : mode ≠ .follow) (a : Alarm) : ackAlarm mode a =
    if a.latched = false then a
    else if alarmClears mode a then { a with latched := false, ackPending := false }
    else { a with ackPending := true } := by
  cases mode with
  | follow => exact absurd rfl hm
  | edge => cases hl : a.latched <;> simp [ackAlarm, alarmClears, hl]
  | level => cases hl : a.latched <;> cases hc : a.condition <;> simp [ackAlarm, alarmClears, hl, hc]

theorem ackAlarm_latched (mode : Mode) (a : Alarm) :
    (ackAlarm mode a).latched = (a.latched && decide (mode = .level) && a.condition) := by
  unfold ackAlarm
  split
  next hl =>
    split
    next h => simp [hl, h.1, h.2]
    next h => simpa [hl, or_iff_not_imp_left] using h
  next hl => simp [Bool.not_eq_true _ ▸ hl]

/-- The acknowledgement written into a channel's alarm latch (R181). -/
def ackedChannel (ch : Fin 8) (s : State) : State :=
  setCrackChannel ch
    { s.crack.channels[ch] with alarm := ackAlarm s.settings.crack[ch].mode s.crack.channels[ch].alarm } s

/-- The CRACK condition behind an acknowledgement: it stands where it stood and the latch does not clear (R182). -/
theorem crackCondition_acked {ch : Fin 8} {s : State} (hm : s.settings.crack[ch].mode ≠ .follow) :
    crackCondition s.settings.crack[ch] (ackedChannel ch s).crack.channels[ch] =
      (crackCondition s.settings.crack[ch] s.crack.channels[ch] &&
        !alarmClears s.settings.crack[ch].mode s.crack.channels[ch].alarm) := by
  simp only [crackCondition, ackedChannel, setCrackChannel_getElem, if_true, ackAlarm_eq hm]
  cases hl : s.crack.channels[ch].alarm.latched with
  | false => rw [if_pos rfl, hl]; rfl
  | true =>
    rw [if_neg (by simp)]
    cases alarmClears s.settings.crack[ch].mode s.crack.channels[ch].alarm <;> simp [-Fin.getElem_fin]

theorem ackChannel_eq (exit : Bool) {ch : Fin 8} {s : State} (hm : s.settings.crack[ch].mode ≠ .follow) :
    ackChannel exit ch s = reportWith exit (.crack ch)
      (crackCondition s.settings.crack[ch] s.crack.channels[ch] &&
        !alarmClears s.settings.crack[ch].mode s.crack.channels[ch].alarm) (ackedChannel ch s) := by
  rw [← crackCondition_acked hm]
  rfl

/-! ### The entry -/

/-- The fall of an entry that is clear is stored alone (R6, R7, R8). -/
theorem reportWith_fall_clear {exit : Bool} {c : Cause} {s : State} (hl : (s.entry c).latched = false) :
    reportWith exit c false s = withCondition c false s := by
  unfold reportWith
  split
  next h => exact (withCondition_held c false s h).symm
  · simp only [Bool.false_eq_true, if_false]
    unfold onFall
    rw [entry_setEntry_same]
    split <;> simp [hl, withCondition]

theorem reportWith_same {exit : Bool} {c : Cause} {v : Bool} {s : State} (h : (s.entry c).condition = v) :
    reportWith exit c v s = s := if_pos h

/-- The fall of a LEVEL entry whose ack is pending clears it (R7). -/
theorem reportWith_fall_acked {exit : Bool} {c : Cause} {s : State} (hm : modeOf s.settings c = .level)
    (hc : (s.entry c).condition = true) (hl : (s.entry c).latched = true) (ha : (s.entry c).ackPending = true) :
    reportWith exit c false s = clearEntry exit (some c) c (withCondition c false s) := by
  simp [reportWith, hc, onFall, hm, hl, ha, withCondition]

/-- An entry that waits for the fall of its condition (R7). -/
def withAckPending (c : Cause) (s : State) : State := setEntry c { s.entry c with ackPending := true } s

/-- A CRACK entry after an acknowledgement whose latch clears or stays (R7, R182). -/
def crackEntryAfter (e : CauseEntry) (clears : Bool) : CauseEntry :=
  if e.latched = false then { e with condition := e.condition && !clears }
  else if e.condition = true ∧ clears = false then { e with ackPending := true }
  else { e with condition := false, latched := false, ackPending := false }

section
variable {ch : Fin 8} {s : State} (hm : s.settings.crack[ch].mode ≠ .follow)
  (hc : (s.entry (.crack ch)).condition = crackCondition s.settings.crack[ch] s.crack.channels[ch])
  {clears : Bool} (hclears : clears = alarmClears s.settings.crack[ch].mode s.crack.channels[ch].alarm)
include hm hc hclears

/-- The condition that the acknowledged channel reports, behind work on the entry alone (R182). -/
theorem ackChannel_behind (exit : Bool) {u : State} (hs : u.settings = s.settings) (hk : u.crack = s.crack) :
    ackChannel exit ch u =
      reportWith exit (.crack ch) ((s.entry (.crack ch)).condition && !clears) (ackedChannel ch u) := by
  rw [ackChannel_eq exit (by rw [hs]; exact hm), hs, hk, ← hc, ← hclears]

/-- An acknowledgement that clears no entry writes the entry and its channel's latch alone (R7, R181, R182). -/
theorem acknowledge_crack_keeps (exit : Bool) (h : (s.entry (.crack ch)).latched = false ∨
    ((s.entry (.crack ch)).condition = true ∧ clears = false)) :
    acknowledge exit (.crack ch) s =
      setEntry (.crack ch) (crackEntryAfter (s.entry (.crack ch)) clears) (ackedChannel ch s) := by
  cases hl : (s.entry (.crack ch)).latched with
  | false =>
    have idle : acknowledge exit (.crack ch) s = ackChannel exit ch s := by
      simp only [acknowledge, passAck, ackEntry_idle exit (.inl hl)]
    rw [idle, ackChannel_behind hm hc hclears exit rfl rfl, crackEntryAfter, if_pos hl]
    cases hv : (s.entry (.crack ch)).condition && !clears with
    | false => exact reportWith_fall_clear hl
    | true =>
      have held : (s.entry (.crack ch)).condition = true := (Bool.and_eq_true _ _ ▸ hv).1
      rw [reportWith_same (s := ackedChannel ch s) held, ← held]
      exact (setEntry_entry_self (.crack ch) (ackedChannel ch s)).symm
  | true =>
    obtain ⟨hv, hn⟩ := h.resolve_left (by simp [hl])
    have level : modeOf s.settings (.crack ch) = .level := by
      cases hmode : modeOf s.settings (.crack ch) with
      | edge =>
        have hmode : s.settings.crack[ch].mode = .edge := hmode
        rw [hclears, alarmClears, hmode] at hn
        cases hn
      | level => rfl
      | follow => exact absurd hmode hm
    have pends : acknowledge exit (.crack ch) s =
        ackChannel exit ch (withAckPending (.crack ch) s) := by
      simp only [acknowledge, passAck, ackEntry_pends exit hl level hv, withAckPending]
    rw [pends, ackChannel_behind hm hc hclears exit (u := withAckPending (.crack ch) s) rfl rfl, crackEntryAfter,
      if_neg (by simp [hl]), if_pos ⟨hv, hn⟩]
    exact reportWith_same (by simp [ackedChannel, withAckPending, hv, hn])

/-- An acknowledgement that clears a latched CRACK entry: before its latch, or with the fall of its condition (R6, R7,
R182). -/
theorem acknowledge_crack_clears (exit : Bool) (hl : (s.entry (.crack ch)).latched = true)
    (h : ¬((s.entry (.crack ch)).condition = true ∧ clears = false)) :
    acknowledge exit (.crack ch) s =
      withCondition (.crack ch) false (ackedChannel ch (clearEntry exit none (.crack ch) s)) ∨
    acknowledge exit (.crack ch) s = clearEntry exit (some (.crack ch)) (.crack ch)
      (withCondition (.crack ch) false
        (ackedChannel ch (withAckPending (.crack ch) s))) := by
  have low : ((s.entry (.crack ch)).condition && !clears) = false := by
    cases hv : (s.entry (.crack ch)).condition <;> simp_all
  by_cases hfirst : modeOf s.settings (.crack ch) = .edge ∨
      (modeOf s.settings (.crack ch) = .level ∧ (s.entry (.crack ch)).condition = false)
  · left
    have k := clearEntry_keeps exit none (.crack ch) s
    have cleared : acknowledge exit (.crack ch) s = ackChannel exit ch (clearEntry exit none (.crack ch) s) := by
      simp only [acknowledge, passAck, ackEntry_clears exit hl hfirst]
    rw [cleared, ackChannel_behind hm hc hclears exit k.settings k.crack, low]
    exact reportWith_fall_clear (by simp [ackedChannel, clearEntry_entry])
  · right
    have level : modeOf s.settings (.crack ch) = .level := by
      cases hmode : modeOf s.settings (.crack ch) with
      | edge => exact absurd (.inl hmode) hfirst
      | level => rfl
      | follow => exact absurd hmode hm
    have hv : (s.entry (.crack ch)).condition = true := by
      by_contra hn
      exact hfirst (.inr ⟨level, by simpa using hn⟩)
    have pends : acknowledge exit (.crack ch) s =
        ackChannel exit ch (withAckPending (.crack ch) s) := by
      simp only [acknowledge, passAck, ackEntry_pends exit hl level hv, withAckPending]
    rw [pends, ackChannel_behind hm hc hclears exit (u := withAckPending (.crack ch) s) rfl rfl, low]
    exact reportWith_fall_acked level (by simp [ackedChannel, withAckPending, hv])
      (by simp [ackedChannel, withAckPending, hl]) (by simp [ackedChannel, withAckPending])

/-- The entry and the channel after an acknowledgement, HOLD exit evaluated or not (R181, R182). -/
theorem acknowledge_crack_entry (exit : Bool) : (acknowledge exit (.crack ch) s).entry (.crack ch) =
    crackEntryAfter (s.entry (.crack ch)) clears := by
  by_cases h : (s.entry (.crack ch)).latched = false ∨ ((s.entry (.crack ch)).condition = true ∧ clears = false)
  · rw [acknowledge_crack_keeps hm hc hclears exit h, entry_setEntry_same]
  · obtain ⟨hl, hn⟩ := not_or.mp h
    rw [crackEntryAfter, if_neg hl, if_neg hn]
    obtain e | e := acknowledge_crack_clears hm hc hclears exit (by simpa using hl) hn <;> rw [e]
    · simp [withCondition_entry, ackedChannel, clearEntry_entry]
    · simp [clearEntry_entry, withCondition_entry, ackedChannel, withAckPending]

end

/-- The channel of a CRACK entry takes every acknowledgement of it, and no other channel does (R181). -/
theorem acknowledge_crack_crack (exit : Bool) (ch : Fin 8) (s : State) :
    (acknowledge exit (.crack ch) s).crack = (ackedChannel ch s).crack := by
  have k := ackEntry_keeps exit (.crack ch) s
  show (reportWith _ _ _ (ackedChannel ch (ackEntry exit (.crack ch) s))).crack = _
  rw [(reportWith_keeps _ _ _ _).crack, ackedChannel, ackedChannel, k.settings, setCrackChannel, k.crack]
  rfl

theorem withCondition_latched (c : Cause) (v : Bool) (s : State) (d : Cause) :
    ((withCondition c v s).entry d).latched = (s.entry d).latched := by
  rw [withCondition_entry]
  split
  next h => rw [h]
  · rfl

theorem ackedChannel_confined (ch : Fin 8) (s : State) : Confined s (ackedChannel ch s) :=
  setCrackChannel_confined _ _ _

theorem withCondition_confined (c : Cause) (v : Bool) (s : State) : Confined s (withCondition c v s) :=
  setEntry_confined _ _ _

/-- Where a latched CRACK entry clears, HOLD exit follows as for every clear (R15, R182). -/
theorem acknowledge_crack_entryCleared {ch : Fin 8} {s : State} (hm : s.settings.crack[ch].mode ≠ .follow)
    (hc : (s.entry (.crack ch)).condition = crackCondition s.settings.crack[ch] s.crack.channels[ch])
    {clears : Bool} (hclears : clears = alarmClears s.settings.crack[ch].mode s.crack.channels[ch].alarm)
    (hl : (s.entry (.crack ch)).latched = true) (h : ¬((s.entry (.crack ch)).condition = true ∧ clears = false)) :
    EntryCleared (.crack ch) s (acknowledge true (.crack ch) s) := by
  obtain e | e := acknowledge_crack_clears hm hc hclears true hl h <;> rw [e]
  · have r := clearEntry_entryCleared none (.crack ch) s
    have latched := withCondition_latched (.crack ch) false (ackedChannel ch (clearEntry true none (.crack ch) s))
    exact
      { confined := (r.confined.trans (ackedChannel_confined _ _)).trans (withCondition_confined _ _ _)
        others := fun d hd => by rw [withCondition_entry, if_neg hd]; exact r.others d hd
        latched := (latched _).trans r.latched
        calm := r.calm
        elsewhere := r.elsewhere
        runs := fun hp hcls hr hn => r.runs hp hcls hr fun d hd => (latched d).symm.trans (hn d hd)
        stays := fun hp hs => r.stays hp (hs.imp_right fun ⟨d, hd, hv⟩ => ⟨d, hd, (latched d).symm.trans hv⟩) }
  · have r := clearEntry_entryCleared (some (.crack ch)) (.crack ch)
      (withCondition (.crack ch) false (ackedChannel ch (withAckPending (.crack ch) s)))
    exact
      { confined := (((setEntry_confined _ _ _).trans (ackedChannel_confined _ _)).trans
          (withCondition_confined _ _ _)).trans r.confined
        others := fun d hd => by
          rw [r.others d hd, withCondition_entry, if_neg hd]
          exact entry_setEntry_other (Ne.symm hd) _ s
        latched := r.latched
        calm := r.calm
        elsewhere := r.elsewhere
        runs := r.runs
        stays := r.stays }

theorem crackEntryAfter_latched (e : CauseEntry) (clears : Bool) : (crackEntryAfter e clears).latched = true ↔
    e.latched = true ∧ e.condition = true ∧ clears = false := by
  unfold crackEntryAfter
  split
  next h => simp [h]
  · split <;> simp_all

/-- Settles O24. -/
theorem ackOfCrackReachesTheAlarmLatch : Obligations.AckOfCrackReachesTheAlarmLatch := by
  intro ch s e c mask clears hr he hch hmask hm hcond hclears
  subst he hch hmask
  have named : Cause.ofCodes (1#8).toNat (BitVec.ofNat 8 ch.val).toNat = some (.crack ch) :=
    ofCodes_eq rfl (by simp [Cause.index]; omega)
  have taken : exec (.ack 1#8 (BitVec.ofNat 8 ch.val)) s = .next (sendCommand (.ack 1#8 (BitVec.ofNat 8 ch.val))
      (cmdAck (1#8).toNat (BitVec.ofNat 8 ch.val).toNat) s) := rfl
  have body : cmdAck (1#8).toNat (BitVec.ofNat 8 ch.val).toNat s = (acknowledge true (.crack ch) s, ⟨.ok, []⟩) := by
    simp only [cmdAck, named, accept]
  have others : ∀ d, d ≠ .crack ch → (acknowledge true (.crack ch) s).entry d = s.entry d := by
    by_cases h : (s.entry (.crack ch)).latched = false ∨ ((s.entry (.crack ch)).condition = true ∧ clears = false)
    · intro d hd
      rw [acknowledge_crack_keeps hm hcond hclears true h, entry_setEntry_other (Ne.symm hd)]
      rfl
    · exact (acknowledge_crack_entryCleared hm hcond hclears (by simpa using (not_or.mp h).1) (not_or.mp h).2).others
  have entry := acknowledge_crack_entry hm hcond hclears true
  have crack : (acknowledge true (.crack ch) s).crack =
      { s.crack with channels := s.crack.channels.set ch { s.crack.channels[ch] with
        alarm := if s.crack.channels[ch].alarm.latched = false then s.crack.channels[ch].alarm
          else if clears then { s.crack.channels[ch].alarm with latched := false, ackPending := false }
          else { s.crack.channels[ch].alarm with ackPending := true } } } := by
    rw [acknowledge_crack_crack, ackedChannel, ackAlarm_eq hm, hclears]
    rfl
  by_cases h : (s.entry (.crack ch)).latched = false ∨ ((s.entry (.crack ch)).condition = true ∧ clears = false)
  · have kept := acknowledge_crack_keeps hm hcond hclears true h
    have confined : Confined s (acknowledge true (.crack ch) s) := by
      rw [kept]; exact (ackedChannel_confined ch s).trans (setEntry_confined _ _ _)
    have still : (acknowledge true (.crack ch) s).posture = s.posture ∧
        (acknowledge true (.crack ch) s).program = s.program ∧ (acknowledge true (.crack ch) s).line = s.line := by
      rw [kept]; exact ⟨rfl, rfl, rfl⟩
    refine ⟨_, exec_of_body taken rfl hr body, afterReply_answers _ _ _ _, confined.answered _ _ _, fun d hd => ?_, ?_,
      ?_, fun _ => ?_, fun _ => ?_, fun _ hl hn => ?_⟩
    · rw [afterReply_entry, others d hd]
    · rw [afterReply_crack, crack]
    · rw [afterReply_entry, entry]; rfl
    · refine (confined.answered _ _ _).trans ?_
      rw [afterReply_posture, afterReply_program, afterReply_line, still.1, still.2.1, still.2.2]
    · rw [afterReply_posture, still.1]
    · have stays := (crackEntryAfter_latched (s.entry (.crack ch)) clears).mpr ⟨hl, h.resolve_left (by simp [hl])⟩
      rw [afterReply_entry, entry, stays] at hn
      cases hn
  · obtain ⟨hl, hn⟩ := not_or.mp h
    have hl : (s.entry (.crack ch)).latched = true := by simpa using hl
    have released := acknowledge_crack_entryCleared hm hcond hclears hl hn
    refine ⟨_, exec_of_body taken rfl hr body, afterReply_answers _ _ _ _, released.confined.answered _ _ _,
      fun d hd => ?_, ?_, ?_, fun hcls => ?_, fun hp => ?_, fun hp _ _ hcls => ?_⟩
    · rw [afterReply_entry, others d hd]
    · rw [afterReply_crack, crack]
    · rw [afterReply_entry, entry]; rfl
    · have hcls : classOf s.settings (.crack ch) ≠ .hold := hcls.resolve_left (by
        rw [afterReply_entry, released.latched, hl]; simp)
      obtain ⟨posture, program, line⟩ := released.calm hcls
      refine (released.confined.answered _ _ _).trans ?_
      rw [afterReply_posture, afterReply_program, afterReply_line, posture, program, line]
    · rw [afterReply_posture, released.elsewhere hp]
    · simp only [afterReply_posture, afterReply_entry]
      split
      next hx => exact (released.runs hp hcls hx.1 fun d => hx.2 d (Cause.mem_all d)).1
      next hx =>
        refine released.stays hp ?_
        by_contra hno
        rw [not_or, not_exists] at hno
        exact hx ⟨by simpa using hno.1, fun d _ hd => by simpa using fun hv => hno.2 d ⟨hd, hv⟩⟩

end Sys2Proof.Postures

/-! ## ACK ALL (R9, R15, R181, R182) -/

namespace Sys2Proof.Postures

open Sys2Proof Sys2Proof.Machine Sys2Proof.Laws Sys2Proof.Safety Sys2Proof.Claims

/-- A report of false stores the condition, and may clear the entry behind it (R6, R7, R8). -/
theorem reportWith_fall_cases (exit : Bool) (c : Cause) (s : State) :
    reportWith exit c false s = withCondition c false s ∨
    reportWith exit c false s = clearEntry exit (some c) c (withCondition c false s) := by
  unfold reportWith
  split
  next h => exact .inl (withCondition_held c false s h).symm
  · simp only [Bool.false_eq_true, if_false]
    unfold onFall
    split
    · exact .inl rfl
    · split
      · exact .inr rfl
      · exact .inl rfl
    · split
      · exact .inr rfl
      · exact .inl rfl

theorem ackEntry_cases (exit : Bool) (c : Cause) (s : State) :
    ackEntry exit c s = s ∨ ackEntry exit c s = withAckPending c s ∨ ackEntry exit c s = clearEntry exit none c s := by
  unfold ackEntry
  split
  · split
    · exact .inr (.inr rfl)
    · split
      · exact .inr (.inl rfl)
      · exact .inr (.inr rfl)
    · exact .inl rfl
  · exact .inl rfl

/-! ### One acknowledgement of ACK ALL -/

/-- Nothing but entry c, its crack channel, the program, the line and the notices has changed. -/
structure OnlyAt (c : Cause) (s t : State) : Prop where
  confined : Confined s t
  posture : t.posture = s.posture
  others : ∀ d, d ≠ c → t.entry d = s.entry d
  channels : ∀ ch, c ≠ .crack ch → t.crack.channels[ch] = s.crack.channels[ch]

theorem OnlyAt.refl (c : Cause) (s : State) : OnlyAt c s s := ⟨.refl s, rfl, fun _ _ => rfl, fun _ _ => rfl⟩

theorem OnlyAt.trans {c : Cause} {r s t : State} (h : OnlyAt c r s) (k : OnlyAt c s t) : OnlyAt c r t :=
  ⟨h.confined.trans k.confined, k.posture.trans h.posture, fun d hd => (k.others d hd).trans (h.others d hd),
    fun ch hc => (k.channels ch hc).trans (h.channels ch hc)⟩

theorem setEntry_onlyAt (c : Cause) (e : CauseEntry) (s : State) : OnlyAt c s (setEntry c e s) :=
  ⟨setEntry_confined c e s, rfl, fun _ hd => entry_setEntry_other (Ne.symm hd) e s, fun _ _ => rfl⟩

theorem ackedChannel_onlyAt (ch : Fin 8) (s : State) : OnlyAt (.crack ch) s (ackedChannel ch s) :=
  ⟨ackedChannel_confined ch s, rfl, fun _ _ => rfl, fun i hi => by
    rw [ackedChannel, setCrackChannel_getElem, if_neg fun h => hi (by rw [h])]⟩

/-- A clear inside ACK ALL leaves the posture: HOLD exit waits for the last (R9). -/
theorem clearEntry_onlyAt (k : Option Cause) (c : Cause) (s : State) : OnlyAt c s (clearEntry false k c s) :=
  ⟨clearEntry_confined false k c s, by simp [clearEntry], fun d hd => by rw [clearEntry_entry, if_neg hd],
    fun ch _ => by rw [(clearEntry_keeps false k c s).crack]⟩

theorem reportWith_fall_onlyAt (c : Cause) (s : State) : OnlyAt c s (reportWith false c false s) := by
  have stored : OnlyAt c s (withCondition c false s) := setEntry_onlyAt _ _ _
  obtain e | e := reportWith_fall_cases false c s <;> rw [e]
  · exact stored
  · exact stored.trans (clearEntry_onlyAt _ _ _)

theorem ackEntry_onlyAt (c : Cause) (s : State) : OnlyAt c s (ackEntry false c s) := by
  obtain e | e | e := ackEntry_cases false c s <;> rw [e]
  · exact .refl c s
  · exact setEntry_onlyAt _ _ _
  · exact clearEntry_onlyAt _ _ _

/-- An acknowledgement changes no condition of an entry (R9). -/
theorem ackEntry_condition (exit : Bool) (c d : Cause) (s : State) :
    ((ackEntry exit c s).entry d).condition = (s.entry d).condition := by
  obtain e | e | e := ackEntry_cases exit c s <;> rw [e]
  · rw [withAckPending, entry_setEntry]
    split
    next h => rw [h]
    · rfl
  · rw [clearEntry_entry]
    split
    next h => rw [h]
    · rfl

/-- An acknowledged latch raises no CRACK condition (R181, R182). -/
theorem crackCondition_acked_le (ch : Fin 8) (s : State)
    (h : crackCondition s.settings.crack[ch] (ackedChannel ch s).crack.channels[ch] = true) :
    crackCondition s.settings.crack[ch] s.crack.channels[ch] = true := by
  rw [crackCondition, ackedChannel, setCrackChannel_getElem, if_pos rfl, ackAlarm_latched] at h
  simp only [Bool.and_eq_true] at h
  simp only [crackCondition, h.1.1.1, h.2, Bool.and_true]

theorem acknowledge_onlyAt {c : Cause} {s : State} (h : ∀ ch, c = .crack ch →
    (s.entry (.crack ch)).condition = crackCondition s.settings.crack[ch] s.crack.channels[ch]) :
    OnlyAt c s (acknowledge false c s) := by
  have first := ackEntry_onlyAt c s
  by_cases hc : ∃ ch, c = .crack ch
  · obtain ⟨ch, rfl⟩ := hc
    have k := ackEntry_keeps false (.crack ch) s
    have held : ((ackEntry false (.crack ch) s).entry (.crack ch)).condition =
        crackCondition (ackEntry false (.crack ch) s).settings.crack[ch]
          (ackEntry false (.crack ch) s).crack.channels[ch] := by
      rw [ackEntry_condition, k.settings, k.crack]; exact h ch rfl
    refine (first.trans (ackedChannel_onlyAt ch _)).trans ?_
    show OnlyAt _ _ (reportWith false (.crack ch)
      (crackCondition (ackEntry false (.crack ch) s).settings.crack[ch]
        (ackedChannel ch (ackEntry false (.crack ch) s)).crack.channels[ch])
      (ackedChannel ch (ackEntry false (.crack ch) s)))
    cases hv : crackCondition (ackEntry false (.crack ch) s).settings.crack[ch]
        (ackedChannel ch (ackEntry false (.crack ch) s)).crack.channels[ch] with
    | false => exact reportWith_fall_onlyAt _ _
    | true =>
      rw [reportWith_same (s := ackedChannel ch _) (held.trans (crackCondition_acked_le ch _ hv))]
      exact .refl _ _
  · rw [acknowledge_of_uncracked false fun ch e => hc ⟨ch, e⟩]
    exact first

/-- What ACK ALL makes of one entry and its crack channel (R6 to R9, R181, R182). -/
structure Acked (c : Cause) (s t : State) : Prop where
  plain : (∀ ch, c ≠ .crack ch) →
    (t.entry c).condition = (s.entry c).condition ∧ (t.entry c).snapshot = (s.entry c).snapshot ∧
    (modeOf s.settings c = .edge → (t.entry c).latched = false) ∧
    (modeOf s.settings c = .level →
      (t.entry c).latched = ((s.entry c).latched && (s.entry c).condition) ∧
      ((t.entry c).latched = true → (t.entry c).ackPending = true)) ∧
    (modeOf s.settings c = .follow → t.entry c = s.entry c)
  alarm : ∀ ch, c = .crack ch → t.crack.channels[ch].alarm.latched =
    (s.crack.channels[ch].alarm.latched && decide (s.settings.crack[ch].mode = .level) &&
      s.crack.channels[ch].alarm.condition)
  crack : ∀ ch, c = .crack ch → s.settings.crack[ch].mode ≠ .follow →
    (t.entry (.crack ch)).condition = (t.crack.channels[ch].alarm.latched && !s.settings.crack[ch].mask) ∧
    (t.entry (.crack ch)).latched = (t.entry (.crack ch)).condition

/-- An entry and its crack channel are the same in two states. -/
structure SameAt (c : Cause) (s t : State) : Prop where
  settings : t.settings = s.settings
  entry : t.entry c = s.entry c
  channel : ∀ ch, c = .crack ch → t.crack.channels[ch] = s.crack.channels[ch]

theorem SameAt.trans {c : Cause} {r s t : State} (h : SameAt c r s) (k : SameAt c s t) : SameAt c r t :=
  ⟨k.settings.trans h.settings, k.entry.trans h.entry, fun ch e => (k.channel ch e).trans (h.channel ch e)⟩

theorem OnlyAt.sameAt {c d : Cause} {s t : State} (h : OnlyAt c s t) (hd : d ≠ c) : SameAt d s t :=
  ⟨h.confined.settings, h.others d hd, fun ch e => h.channels ch fun e' => hd (e.trans e'.symm)⟩

theorem Acked.of_sameAt_left {c : Cause} {r s t : State} (k : SameAt c r s) (h : Acked c s t) : Acked c r t where
  plain hn := by rw [← k.settings, ← k.entry]; exact h.plain hn
  alarm ch e := by rw [← k.settings, ← k.channel ch e]; exact h.alarm ch e
  crack ch e hm := by rw [← k.settings] at hm ⊢; exact h.crack ch e hm

theorem Acked.of_sameAt_right {c : Cause} {r s t : State} (h : Acked c r s) (k : SameAt c s t) : Acked c r t where
  plain hn := by rw [k.entry]; exact h.plain hn
  alarm ch e := by rw [k.channel ch e]; exact h.alarm ch e
  crack ch e hm := by subst e; rw [k.entry, k.channel ch rfl]; exact h.crack ch rfl hm

/-- The CRACK condition is R182's and no entry stands true without its latch (R182). -/
def CrackStands (s : State) (ch : Fin 8) : Prop :=
  (s.entry (.crack ch)).condition = crackCondition s.settings.crack[ch] s.crack.channels[ch] ∧
  ((s.entry (.crack ch)).condition = true → (s.entry (.crack ch)).latched = true)

theorem SameAt.crackStands {s t : State} {ch : Fin 8} (k : SameAt (.crack ch) s t) (h : CrackStands s ch) :
    CrackStands t ch := by
  unfold CrackStands
  rw [k.entry, k.settings, k.channel ch rfl]
  exact h

theorem acknowledge_acked_uncracked {c : Cause} (hn : ∀ ch, c ≠ .crack ch) (s : State) :
    Acked c s (acknowledge false c s) := by
  rw [acknowledge_of_uncracked false hn]
  refine ⟨fun _ => ?_, fun ch e => absurd e (hn ch), fun ch e => absurd e (hn ch)⟩
  unfold ackEntry
  cases hl : (s.entry c).latched with
  | false => simp [hl]
  | true =>
    cases hm : modeOf s.settings c with
    | edge => simp [clearEntry_entry]
    | follow => simp
    | level => cases hc : (s.entry c).condition <;> simp [clearEntry_entry, hc, hl]

theorem acknowledge_acked_crack {ch : Fin 8} {s : State} (h : CrackStands s ch) :
    Acked (.crack ch) s (acknowledge false (.crack ch) s) := by
  obtain ⟨hc, hl⟩ := h
  refine ⟨fun hn => absurd rfl (hn ch), fun i e => ?_, fun i e hm => ?_⟩ <;> cases e
  · rw [acknowledge_crack_crack, ackedChannel, setCrackChannel_getElem, if_pos rfl, ackAlarm_latched]
  · have value := crackCondition_acked hm
    rw [← hc] at value
    rw [acknowledge_crack_entry hm hc rfl, acknowledge_crack_crack]
    change _ = crackCondition _ _ ∧ _
    rw [value, crackEntryAfter]
    cases he : (s.entry (.crack ch)).latched with
    | false =>
      have hv : (s.entry (.crack ch)).condition = false := by
        by_contra hv
        rw [hl (by simpa using hv)] at he
        cases he
      simp [hv]
    | true =>
      cases (s.entry (.crack ch)).condition <;>
        cases alarmClears s.settings.crack[ch].mode s.crack.channels[ch].alarm <;> simp

theorem acknowledge_acked {c : Cause} {s : State} (h : ∀ ch, c = .crack ch → CrackStands s ch) :
    Acked c s (acknowledge false c s) := by
  by_cases hc : ∃ ch, c = .crack ch
  · obtain ⟨ch, rfl⟩ := hc
    exact acknowledge_acked_crack (h ch rfl)
  · exact acknowledge_acked_uncracked (fun ch e => hc ⟨ch, e⟩) s

/-! ### The run over the table -/

theorem nodup_all : Cause.all.Nodup := by
  have numbers : Cause.all.map Cause.number = List.finRange 59 := by decide
  exact List.Nodup.of_map Cause.number (numbers ▸ List.nodup_finRange 59)

/-- Entries acknowledged one after another: each as if alone, and HOLD left by none (R9). -/
theorem acknowledge_foldl (l : List Cause) (hd : l.Nodup) (s : State)
    (h : ∀ ch, .crack ch ∈ l → CrackStands s ch) :
    Confined s (l.foldl (fun s c => acknowledge false c s) s) ∧
    (l.foldl (fun s c => acknowledge false c s) s).posture = s.posture ∧
    (∀ c, c ∉ l → SameAt c s (l.foldl (fun s c => acknowledge false c s) s)) ∧
    ∀ c, c ∈ l → Acked c s (l.foldl (fun s c => acknowledge false c s) s) := by
  induction l generalizing s with
  | nil => exact ⟨.refl s, rfl, fun _ _ => ⟨rfl, rfl, fun _ _ => rfl⟩, fun _ hc => absurd hc (by simp)⟩
  | cons c l ih =>
    obtain ⟨hcl, hl⟩ := List.nodup_cons.mp hd
    have stands : ∀ ch, c = .crack ch → CrackStands s ch := fun ch e => h ch (by simp [e])
    have step : OnlyAt c s (acknowledge false c s) := acknowledge_onlyAt fun ch e => (stands ch e).1
    obtain ⟨confined, posture, outside, inside⟩ := ih hl (acknowledge false c s) fun ch hch =>
      (step.sameAt fun e => hcl (e ▸ hch)).crackStands (h ch (List.mem_cons_of_mem c hch))
    refine ⟨step.confined.trans confined, posture.trans step.posture, fun d hdl => ?_, fun d hdl => ?_⟩
    · obtain ⟨hdc, hdl⟩ := not_or.mp (mt List.mem_cons.mpr hdl)
      exact (step.sameAt hdc).trans (outside d hdl)
    · obtain rfl | hdl := List.mem_cons.mp hdl
      · exact (acknowledge_acked stands).of_sameAt_right (outside d hcl)
      · exact (inside d hdl).of_sameAt_left (step.sameAt fun e => hcl (e ▸ hdl))

/-- ACK ALL is the run over the table and HOLD exit once behind it (R9, R15). -/
theorem acknowledgeAll_eq (s : State) (h : crackLaw s) : ∃ m, acknowledgeAll s = holdExit none m ∧ Confined s m ∧
    m.posture = s.posture ∧ ∀ c, Acked c s m := by
  obtain ⟨confined, posture, -, acked⟩ := acknowledge_foldl Cause.all nodup_all s fun ch _ => h ch
  exact ⟨_, rfl, confined, posture, fun c => acked c (Cause.mem_all c)⟩

/-- Settles O25. -/
theorem ackAllAcknowledgesEveryEntry : Obligations.AckAllAcknowledgesEveryEntry := by
  intro s hr hk
  obtain ⟨m, hm, confined, posture, acked⟩ := acknowledgeAll_eq s hk
  have body : cmdAckAll s = (holdExit none m, ⟨.ok, []⟩) := by rw [cmdAckAll, hm]; rfl
  have whole : Confined s (holdExit none m) := confined.trans (holdExit_confined none m)
  have entries : ∀ d, (holdExit none m).entry d = m.entry d := fun d => by
    rw [State.entry, State.entry, holdExit_causes]
  have crack : (holdExit none m).crack = m.crack := (holdExit_keeps none m).crack
  refine ⟨_, exec_of_body rfl rfl hr body, afterReply_answers _ _ _ _, fun c hn => ?_, fun ch => ?_, fun ch hmode => ?_,
    fun hp => ?_, fun hp => ?_, by simp [whole.settings], by simp [whole.servo], by simp [whole.strain],
    by simp [whole.ports], by simp [whole.peers], by simp [whole.holdRecord], by simp [whole.unloadRecord]⟩
  · rw [afterReply_entry, entries]; exact (acked c).plain hn
  · rw [afterReply_crack, crack]; exact (acked (.crack ch)).alarm ch rfl
  · rw [afterReply_entry, afterReply_crack, entries, crack]; exact (acked (.crack ch)).crack ch rfl hmode
  · rw [afterReply_posture, holdExit_posture, posture, if_neg fun h => hp h.1]
  · rw [afterReply_posture, holdExit_posture]
    refine if_congr ?_ rfl (posture.trans hp)
    simp only [afterReply_entry, entries, posture, holdLatched_false_iff, confined.resumeRequired, confined.settings,
      hp, true_and, Cause.mem_all, true_imp_iff, and_comm]

end Sys2Proof.Postures

/-! ## The control period in UNLOAD, and the two rows it answers for (R17 to R19, R50, R53 to R62, R65) -/

namespace Sys2Proof.Postures

open Sys2Proof Sys2Proof.Machine Sys2Proof.Laws Sys2Proof.Safety Sys2Proof.Claims

/-! ### Stages 1 to 8 with a fresh load -/

/-- A fresh load counts no period to the stale limit (R50). -/
theorem loadStaleCondition_of_fresh {s : State} (h : loadFresh s) :
    loadStaleCondition s.settings (countStale s.servo) = false := by
  obtain ⟨hload, -, hlt, -, hseen⟩ := h
  obtain ⟨load, hload⟩ := Option.isSome_iff_exists.mp hload
  simp only [loadStaleCondition, countStale, hload, Option.isNone_some, Bool.false_or, decide_eq_false_iff_not, not_le,
    saturate]
  split
  · exact hlt
  next hs =>
    have := hseen.resolve_left hs
    omega

/-- Stage 1 with a fresh load reports nothing new (R50). -/
theorem staleStage_of_fresh {s : State} (h : loadFresh s) :
    staleStage s = { s with servo := countStale s.servo } := by
  rw [staleStage, loadStaleCondition_of_fresh h]
  exact reportWith_same h.2.1

/-- The state before stage 3, out of RUN and with a fresh load (R35, R50). -/
theorem beforeLoop_of_fresh {s : State} (h : loadFresh s) (hp : s.posture ≠ .run) : beforeLoop s =
    { s with servo := countStale s.servo, program := standing s, timers := { s.timers with control := 1000 } } := by
  rw [beforeLoop, staleStage_of_fresh (s := rearmControl s) h, programExpiry, if_neg fun k => hp k.1]
  rfl

/-- Stages 4 to 8 at a target, with the stale counter of stage 1 (R50, R55 to R59). -/
theorem loopStages_eq_loopAfter {s : State} (h : loadFresh s) (target setpoint : Int) :
    loopStages s.settings s.loadNow { countStale s.servo with target := target, unloadSetpoint := setpoint } =
      { loopAfter s target with unloadSetpoint := setpoint } := by
  have stale : (countStale s.servo).stale = if s.servo.loadSeen then s.servo.stale else s.servo.stale + 1 := by
    simp only [countStale, saturate]
    split
    · rfl
    · have := h.2.2.1; have := h.2.2.2.1; omega
  have sat : ∀ (u : Int) (n : Nat), (if satDirOf s.settings u = .zero then 0 else n) =
      if (s.settings.valveLimit : Int) < u ∨ u < -s.settings.valveLimit then n else 0 := fun u n => by
    unfold satDirOf
    by_cases hp : (s.settings.valveLimit : Int) < u
    · simp [hp]
    · by_cases hm : u < -s.settings.valveLimit <;> simp [hp, hm]
  unfold loopStages loopAfter
  simp only [sat, stale]
  rfl

/-- The loop's values after stages 3 to 8 in UNLOAD (R60). -/
def unloadLoop (s : State) : Servo :=
  { loopAfter s (unloadToward s.settings s.servo.unloadSetpoint) with
    unloadSetpoint := unloadToward s.settings s.servo.unloadSetpoint }

/-- The state after stages 1 to 8 in UNLOAD, before their reports. -/
def unloadLooped (s : State) : State :=
  { s with servo := unloadLoop s, program := standing s, timers := { s.timers with control := 1000 } }

/-- The two reports behind stage 8, FOLLOWING before VALVE_SAT (R53). -/
def loopReported (u : State) : State :=
  let followed := report .following (followingCondition u.settings u.servo) u
  report .valveSat (valveSatCondition followed.settings followed.servo) followed

/-- The state after stages 1 to 8 in UNLOAD with a fresh load (R53). -/
theorem loopStage_in_unload {s : State} (hp : s.posture = .unload) (h : loadFresh s) :
    loopStage (targetStage (beforeLoop s)) = loopReported (unloadLooped s) := by
  have computed : ∀ u : State, loopStage u =
      loopReported { u with servo := loopStages u.settings u.loadNow u.servo } := fun _ => rfl
  have looped := loopStages_eq_loopAfter h (unloadToward s.settings s.servo.unloadSetpoint)
    (unloadToward s.settings s.servo.unloadSetpoint)
  rw [computed, beforeLoop_of_fresh h (by simp [hp]), targetStage, if_pos hp]
  exact congrArg (fun v => loopReported
    { s with servo := v, program := standing s, timers := { s.timers with control := 1000 } }) looped

/-- A control period in UNLOAD with a fresh load: the loop, and the settle test where it leaves the posture (R53). -/
theorem controlPeriod_in_unload {s : State} (hp : s.posture = .unload) (h : loadFresh s) : controlPeriod s =
    if (loopReported (unloadLooped s)).posture = .unload then settleStage (loopReported (unloadLooped s))
    else loopReported (unloadLooped s) := by
  have posture : (beforeLoop s).posture = .unload := by rw [beforeLoop_of_fresh h (by simp [hp])]; exact hp
  rw [controlPeriod, if_neg (by rw [posture]; simp), loopToStage8]
  simp only [posture, decide_true, Bool.true_and, decide_eq_true_eq, loopStage_in_unload hp h]

/-- A saturating counter that grows or returns to 0 grows by one at most. -/
theorem counted_le (p : Prop) [Decidable p] (n : Nat) : (if p then min (n + 1) 65535 else 0) ≤ n + 1 := by
  split
  · exact min_le_left _ _
  · exact Nat.zero_le _

/-- Each counter of the loop grows by one at most in a control period (R57, R59). -/
theorem loopAfter_counts (s : State) (target : Int) : (loopAfter s target).followCount ≤ s.servo.followCount + 1 ∧
    (loopAfter s target).satCount ≤ s.servo.satCount + 1 :=
  ⟨counted_le _ _, counted_le _ _⟩

/-- A quiet loop reports nothing new (R57, R59). -/
theorem loopReported_of_quiet {s : State} (h : loopQuiet s) : loopReported (unloadLooped s) = unloadLooped s := by
  obtain ⟨hf, hfc, hv, hvc⟩ := h
  obtain ⟨follows, sats⟩ := loopAfter_counts s (unloadToward s.settings s.servo.unloadSetpoint)
  have follow : followingCondition s.settings (unloadLoop s) = false :=
    decide_eq_false (Nat.not_le.mpr (Nat.lt_of_le_of_lt follows hfc))
  have sat : valveSatCondition s.settings (unloadLoop s) = false :=
    decide_eq_false (Nat.not_le.mpr (Nat.lt_of_le_of_lt sats hvc))
  have followed : report .following (followingCondition (unloadLooped s).settings (unloadLooped s).servo)
      (unloadLooped s) = unloadLooped s := reportWith_same (hf.trans follow.symm)
  rw [loopReported, followed]
  exact reportWith_same (hv.trans sat.symm)

theorem controlPeriod_of_quiet {s : State} (hp : s.posture = .unload) (h : loadFresh s) (hq : loopQuiet s) :
    controlPeriod s = settleStage (unloadLooped s) := by
  rw [controlPeriod_in_unload hp h, loopReported_of_quiet hq]
  exact if_pos hp

/-! ### Stage 9 -/

/-- The settle test over at a count (R61). -/
def testEnded (n : Nat) (s : State) : State := { s with servo := { s.servo with settle := .ended, settleCount := n } }

/-- What stage 9 does where the settle test has a count: it ends the unload, or counts on (R61). -/
theorem settleStage_of_count {s : State} {n : Nat} (h : settleCountNow s = some n) : settleStage s =
    if (s.loadNow - s.settings.unloadFloor).natAbs ≤ s.settings.settleBand then
      endUnload none .complete (testEnded n s)
    else if s.settings.settleTime ≤ n then
      endUnload none .incomplete (testEnded n s)
    else { s with servo := { s.servo with settle := .testing, settleCount := n } } := by
  unfold settleStage settleResult
  simp only [h]
  by_cases hb : (s.loadNow - s.settings.unloadFloor).natAbs ≤ s.settings.settleBand
  · simp [hb, testEnded]
  · by_cases ht : s.settings.settleTime ≤ n <;> simp [hb, ht, testEnded]

/-- An unload that ends with the loop's conditions false touches no entry (R18, R65). -/
theorem endUnload_entry_of_low (k : Option Cause) (o : UnloadOutcome) {s : State}
    (hf : (s.entry .following).condition = false) (hv : (s.entry .valveSat).condition = false) (d : Cause) :
    (endUnload k o s).entry d = s.entry d := by
  rw [endUnload_entry]
  split
  next h =>
    obtain rfl | rfl := h
    · rw [← hf]
    · rw [← hv]
  · rfl

/-! ### The unload setpoint and the settle count -/

theorem unloadToward_far {st : Settings} {u : Int} (h : st.unloadStep < (st.unloadFloor - u).natAbs) :
    unloadToward st u ≠ st.unloadFloor := by
  unfold unloadToward
  rw [if_neg (by omega)]
  split <;> omega

theorem settleStage_of_none {s : State} (h : settleCountNow s = none) : settleStage s = s := by
  unfold settleStage; rw [h]

/-- The test waits while the unload setpoint is short of the floor (R61). -/
theorem settleCount_waits {s : State} (hn : s.servo.settle = .notStarted)
    (h : s.settings.unloadStep < (s.settings.unloadFloor - s.servo.unloadSetpoint).natAbs) :
    settleCountNow (unloadLooped s) = none := by
  have settle : (unloadLooped s).servo.settle = .notStarted := hn
  unfold settleCountNow
  rw [settle]
  exact if_neg (unloadToward_far h)

/-- The test starts with count 0 where the unload setpoint reaches the floor (R61). -/
theorem settleCount_starts {s : State} (hn : s.servo.settle = .notStarted)
    (h : (s.settings.unloadFloor - s.servo.unloadSetpoint).natAbs ≤ s.settings.unloadStep) :
    settleCountNow (unloadLooped s) = some 0 := by
  have settle : (unloadLooped s).servo.settle = .notStarted := hn
  unfold settleCountNow
  rw [settle]
  exact if_pos (if_pos h)

/-- The test counts on (R61). -/
theorem settleCount_counts {s : State} (ht : s.servo.settle = .testing) :
    settleCountNow (unloadLooped s) = some (min (s.servo.settleCount + 1) 65535) := by
  have settle : (unloadLooped s).servo.settle = .testing := ht
  unfold settleCountNow
  rw [settle]
  rfl

/-! ### A rise of FOLLOWING in UNLOAD (R17) -/

/-- FOLLOWING that rises in UNLOAD, latched before or not, ends the unload with the cause listed (R17). -/
theorem report_following_in_unload {s : State} (hp : s.posture = .unload)
    (hc : (s.entry .following).condition = false) :
    ∃ m, report .following true s = endUnload (some .following) .incomplete m ∧ (m.entry .following).latched = true ∧
      m.unloadRecord = s.unloadRecord.map (listed .following) ∧ m.servo = s.servo ∧ m.peers = s.peers ∧
      m.settings = s.settings := by
  have record : ∀ m : State, m.unloadRecord = s.unloadRecord →
      (appendLater .following m).unloadRecord = s.unloadRecord.map (listed .following) := fun m h => by
    rw [appendLater_unloadRecord, h]; rfl
  cases hl : (s.entry .following).latched with
  | true =>
    refine ⟨appendLater .following (withCondition .following true s), ?_, ?_, record _ rfl, rfl, rfl, rfl⟩
    · simp [report, reportWith, hc, onRise, hl, hp, withCondition]
    · simp [withCondition_entry, hl]
  | false =>
    refine ⟨appendLater .following (latchMarked .following (withCondition .following true s)), ?_, ?_,
      record _ (by simp), ?_, ?_, ?_⟩
    · rw [report, reportWith_rise hc hl, latch_eq, if_neg (by simp [classOf])]
      simp [postureOnLatch, classOf, hp]
    · simp [latchMarked_entry]
    all_goals simp

/-- The control period at which FOLLOWING rises in UNLOAD ends there (R17, R53, R65). -/
theorem controlPeriod_of_following {s : State} (hp : s.posture = .unload) (h : loadFresh s)
    (hc : (s.entry .following).condition = false) (hcount : s.settings.followingCount ≤ (unloadLoop s).followCount)
    (hv : 1 ≤ s.settings.valveSatLimit) : controlPeriod s = report .following true (unloadLooped s) := by
  obtain ⟨m, ended, -, -, -, -, settings⟩ := report_following_in_unload (s := unloadLooped s) hp hc
  have follow : followingCondition (unloadLooped s).settings (unloadLooped s).servo = true := decide_eq_true hcount
  have reported : loopReported (unloadLooped s) = report .following true (unloadLooped s) := by
    rw [loopReported, follow, ended]
    refine reportWith_same ?_
    rw [endUnload_entry, if_pos (.inr rfl), endUnload_settings, endUnload_servo, settings]
    exact (decide_eq_false (Nat.not_le.mpr hv)).symm
  rw [controlPeriod_in_unload hp h, reported, ended]
  rfl

/-- Settles O34. -/
theorem unloadPeriodNearsTheUnloadFloor : Obligations.UnloadPeriodNearsTheUnloadFloor := by
  intro s floor u next loop hp hf hfloor hu hnext hloop
  subst hfloor hu hnext hloop
  have taken : exec .controlPeriodExpiry s = .next (controlPeriod s) := rfl
  refine ⟨fun hq hn hfar => ?_, fun hq hn hnear ht hout => ?_, fun hq hs hin => ?_, fun hc hcount _ hv => ?_⟩
  · refine ⟨_, taken, ?_⟩
    rw [controlPeriod_of_quiet hp hf hq, settleStage_of_none (settleCount_waits hn hfar)]
    rfl
  · refine ⟨_, taken, ?_⟩
    rw [controlPeriod_of_quiet hp hf hq, settleStage_of_count (settleCount_starts hn hnear)]
    exact (if_neg (Nat.not_le.mpr hout)).trans (if_neg (Nat.not_le.mpr ht))
  · obtain ⟨n, hn, count⟩ : ∃ n, settleCountNow (unloadLooped s) = some n ∧
        n = if s.servo.settle = .testing then min (s.servo.settleCount + 1) 65535 else 0 := by
      obtain ⟨hs, hnear⟩ | ⟨hs, -⟩ := hs
      · exact ⟨0, settleCount_starts hs hnear, by simp [hs]⟩
      · exact ⟨_, settleCount_counts hs, by simp [hs]⟩
    have ended : controlPeriod s = endUnload none .complete
        (testEnded n (unloadLooped s)) := by
      rw [controlPeriod_of_quiet hp hf hq, settleStage_of_count hn]
      exact if_pos hin
    refine ⟨_, taken, ?_⟩
    rw [ended, ← count]
    refine ⟨endUnload_posture _ _ _, endUnload_unloadRecord _ _ _, endUnload_servo _ _ _, endUnload_peers _ _ _,
      fun d => ?_⟩
    obtain ⟨hfollow, -, hvalve, -⟩ := hq
    exact endUnload_entry_of_low none .complete (s := testEnded n (unloadLooped s)) hfollow hvalve d
  · obtain ⟨m, ended, latched, record, servo, peers, -⟩ := report_following_in_unload (s := unloadLooped s) hp hc
    have period := (controlPeriod_of_following hp hf hc hcount hv).trans ended
    refine ⟨_, taken, ?_⟩
    rw [period]
    refine ⟨rfl, ?_, ?_, ?_, ?_, ?_⟩
    · rw [endUnload_entry, if_pos (.inl rfl)]; exact latched
    · rw [endUnload_entry, if_pos (.inl rfl)]
    · rw [endUnload_unloadRecord, record]; simp [unloadLooped, Function.comp_def]
    · rw [endUnload_servo, servo]; rfl
    · rw [endUnload_peers, peers]; rfl

/-! ### The row SETTLE_TIME_EXCEEDED (R61) -/

/-- The row acts where the settle test of the period finds its time exceeded (R61). -/
theorem settleExceeds_of_quiet {s : State} (hp : s.posture = .unload) (h : loadFresh s) (hq : loopQuiet s) :
    settleExceeds s = decide (settleResult (unloadLooped s) = some .incomplete) := by
  have posture : (beforeLoop s).posture = .unload := by rw [beforeLoop_of_fresh h (by simp [hp])]; exact hp
  have quiet : loopStage (targetStage (beforeLoop s)) = unloadLooped s := by
    rw [loopStage_in_unload hp h, loopReported_of_quiet hq]
  have still : (unloadLooped s).posture = .unload := hp
  simp only [settleExceeds, loopToStage8, posture, quiet, still, decide_true, Bool.true_and]

/-- Settles O38. -/
theorem settleTimeExceededEndsTheUnload : Obligations.SettleTimeExceededEndsTheUnload := by
  intro s n hp hf hq ht hu hn hout
  have counts : settleCountNow (unloadLooped s) = some n := hn ▸ settleCount_counts ht
  have outside : ¬((unloadLooped s).loadNow - (unloadLooped s).settings.unloadFloor).natAbs ≤
      (unloadLooped s).settings.settleBand := Nat.not_le.mpr hout
  have period : controlPeriod s = if s.settings.settleTime ≤ n then
      endUnload none .incomplete (testEnded n (unloadLooped s)) else
      { unloadLooped s with servo := { unloadLoop s with settle := .testing, settleCount := n } } := by
    rw [controlPeriod_of_quiet hp hf hq, settleStage_of_count counts, if_neg outside]
    rfl
  have row : exec .settleTimeExceeded s = .next (if settleExceeds s then controlPeriod s else s) := rfl
  have expiry : exec .controlPeriodExpiry s = .next (controlPeriod s) := rfl
  have exceeds : settleExceeds s = decide (s.settings.settleTime ≤ n) := by
    rw [settleExceeds_of_quiet hp hf hq, settleResult, counts]
    simp only [if_neg outside]
    by_cases hle : s.settings.settleTime ≤ n
    · simp [hle, unloadLooped]
    · simp [hle, unloadLooped]
  refine ⟨fun hle => ?_, fun hlt => ⟨?_, ?_⟩⟩
  · rw [exceeds, decide_eq_true hle, if_pos rfl] at row
    rw [if_pos hle] at period
    refine ⟨_, row, expiry, ?_⟩
    rw [period]
    obtain ⟨hfollow, -, hvalve, -⟩ := hq
    exact ⟨rfl, endUnload_unloadRecord _ _ _, rfl, rfl, rfl, rfl, endUnload_peers _ _ _,
      endUnload_entry_of_low none .incomplete (s := testEnded n (unloadLooped s)) hfollow hvalve⟩
  · rw [row, exceeds, decide_eq_false (Nat.not_le.mpr hlt)]
    rfl
  · rw [if_neg (Nat.not_le.mpr hlt)] at period
    refine ⟨_, expiry, ?_⟩
    rw [period]
    exact ⟨hp, rfl, rfl, rfl⟩

/-! ### LOAD_STALE (R19, R50) -/

/-- A state whose loop has counted a period more towards the stale limit (R50). -/
def staleCounted (s : State) : State :=
  { s with servo := countStale s.servo, timers := { s.timers with control := 1000 } }

/-- LOAD_STALE that rises out of IDLE and SAFE ends in SAFE, with its record (R19). -/
theorem report_loadStale_enters_safe {s : State} (hp : s.posture = .run ∨ s.posture = .hold ∨ s.posture = .unload)
    (hc : (s.entry .loadStale).condition = false) (hl : (s.entry .loadStale).latched = false) :
    ∃ o m, report .loadStale true s = enterSafe (some .loadStale) o m ∧
      (m.entry .loadStale).condition = true ∧ (m.entry .loadStale).latched = true ∧ m.servo = s.servo ∧
      m.peers = s.peers ∧ m.program = s.program ∧ m.holdRecord = s.holdRecord ∧ m.posture = s.posture ∧
      (s.posture = .run ∨ s.posture = .hold → m.unloadRecord =
        some ⟨.loadStale, s.posture, s.time, s.servo.target, s.loadNow, [], 0, .incomplete⟩) ∧
      (∀ r, s.posture = .unload → s.unloadRecord = some r → r.later.length < 8 →
        m.unloadRecord = some { r with later := r.later ++ [.loadStale], outcome := .incomplete }) := by
  have entry : (latchMarked .loadStale (withCondition .loadStale true s)).entry .loadStale =
      { s.entry .loadStale with
        condition := true, latched := true, ackPending := false
        snapshot := some (snapshotOf (withCondition .loadStale true s)) } := by
    rw [latchMarked_entry, if_pos rfl, withCondition_entry, if_pos rfl]
  have rises : report .loadStale true s = latch .loadStale (withCondition .loadStale true s) := reportWith_rise hc hl
  by_cases hu : s.posture = .unload
  · have moved := latch_safe_in_unload (c := .loadStale) (s := withCondition .loadStale true s) rfl hu
    refine ⟨_, setOutcome .incomplete (appendLater .loadStale
      (latchMarked .loadStale (withCondition .loadStale true s))), rises.trans moved, ?_⟩
    refine ⟨by simp [entry], by simp [entry], by simp, by simp, by simp, by simp, by simp, fun k => ?_,
      fun r _ hr hlt => ?_⟩
    · rw [hu] at k
      simp at k
    · rw [setOutcome, appendLater_of_room .loadStale (r := r) (by simpa using hr) hlt]
      rfl
  · have moving : s.posture = .run ∨ s.posture = .hold := by simpa [hu] using hp
    have moved := latch_safe_enters (c := .loadStale) (s := withCondition .loadStale true s) rfl moving
    refine ⟨_, _, rises.trans moved, ?_⟩
    refine ⟨by simp [entry], by simp [entry], by simp, by simp, by simp, by simp, by simp, fun _ => ?_,
      fun _ k => absurd k hu⟩
    simp [setOutcome, writeUnloadRecord]

/-- The control period at which LOAD_STALE rises (R19, R50, R53): stages 3 to 9 are not reached. -/
theorem controlPeriod_of_stale {s : State} (hrise : loadStaleCondition s.settings (countStale s.servo) = true)
    {o : Option UnloadOutcome} {m : State}
    (h : report .loadStale true (staleCounted s) = enterSafe (some .loadStale) o m) :
    controlPeriod s = derateProgram (enterSafe (some .loadStale) o m) := by
  have staled : staleStage (rearmControl s) = enterSafe (some .loadStale) o m := by
    rw [← h, staleStage, ← hrise]; rfl
  have before : beforeLoop s = derateProgram (enterSafe (some .loadStale) o m) := by
    rw [beforeLoop, staled, programExpiry, if_neg]
    rintro ⟨k, -⟩
    cases k
  rw [controlPeriod, before]
  exact if_pos (.inr rfl)

@[simp] theorem enterSafe_holdSlot (k : Option Cause) (o : Option UnloadOutcome) (s : State) :
    (enterSafe k o s).line.holdSlot = {} := by simp [enterSafe, emptyHoldSlot, dropDemand]

section
variable (s : State)

@[simp] theorem derateProgram_posture : (derateProgram s).posture = s.posture := rfl
@[simp] theorem derateProgram_holdRecord : (derateProgram s).holdRecord = s.holdRecord := rfl
@[simp] theorem derateProgram_unloadRecord : (derateProgram s).unloadRecord = s.unloadRecord := rfl
@[simp] theorem derateProgram_servo : (derateProgram s).servo = s.servo := rfl
@[simp] theorem derateProgram_line : (derateProgram s).line = s.line := rfl
@[simp] theorem derateProgram_peers : (derateProgram s).peers = s.peers := rfl
@[simp] theorem derateProgram_setpoint : (derateProgram s).program.setpoint = s.program.setpoint := rfl
@[simp] theorem derateProgram_queue : (derateProgram s).program.queue = s.program.queue := rfl
@[simp] theorem derateProgram_entry (d : Cause) : (derateProgram s).entry d = s.entry d := rfl

end

/-- Settles O37. -/
theorem loadStaleEntersSafe : Obligations.LoadStaleEntersSafe := by
  intro s
  have row : exec .loadStale s = .next (if staleRises s then controlPeriod s else s) := rfl
  have expiry : exec .controlPeriodExpiry s = .next (controlPeriod s) := rfl
  refine ⟨fun hload hc hl hseen hlt hlimit hp => ?_, fun hf => ?_⟩
  · have counted : countStale s.servo = { s.servo with stale := s.servo.stale + 1 } := by
      have : min (s.servo.stale + 1) 255 = s.servo.stale + 1 := by omega
      simp [countStale, saturate, hseen, this]
    have rises : loadStaleCondition s.settings (countStale s.servo) = true := by
      simp [loadStaleCondition, counted, hlimit]
    obtain ⟨o, m, entered, condition, latched, servo, peers, program, record, -, fromLoop, fromUnload⟩ :=
      report_loadStale_enters_safe (s := staleCounted s) (by tauto) hc hl
    have period := controlPeriod_of_stale rises entered
    have acts : staleRises s = true := by simp [staleRises, hc, rises]
    rw [acts, if_pos rfl] at row
    refine ⟨_, row, expiry, ?_⟩
    rw [period]
    have keeps := enterSafe_keeps (some .loadStale) o m
    refine ⟨by simp, ?_, ?_, ?_, by simp [peers, staleCounted], by simp, by simp, ?_, ?_,
      by simp [record, staleCounted], fun k => ?_, fun r hu hr hroom => ?_⟩
    · simp [enterSafe_entry, condition]
    · simp [enterSafe_entry, latched]
    · simp [servo, staleCounted, counted, restServo]
    · rw [derateProgram_setpoint, keeps.setpoint, program]; rfl
    · rw [derateProgram_queue, keeps.queue, program]; rfl
    · rw [derateProgram_unloadRecord, enterSafe_unloadRecord, fromLoop k]; simp [staleCounted, counted, State.loadNow]
    · rw [derateProgram_unloadRecord, enterSafe_unloadRecord, fromUnload r hu hr hroom]
  · rw [row, staleRises, loadStaleCondition_of_fresh hf, Bool.and_false]
    rfl

end Sys2Proof.Postures

/-! ## The interlock lines (R12, R13, R24, R25) -/

namespace Sys2Proof.Postures

open Sys2Proof Sys2Proof.Machine Sys2Proof.Laws Sys2Proof.Safety Sys2Proof.Claims

/-! ### What a report makes of its entry -/

/-- Where a report stores its condition: in every entry but those that an entry into SAFE lowers (R5, R65). -/
theorem latch_condition {c : Cause} (hf : c ≠ .following) (hv : c ≠ .valveSat) (s : State) :
    ((latch c s).entry c).condition = (s.entry c).condition := by
  have moved : (postureOnLatch c (classOf s.settings c) (latchMarked c s)).entry c = (latchMarked c s).entry c := by
    obtain h | ⟨-, h⟩ := postureOnLatch_entry c (classOf s.settings c) (latchMarked c s) c
    · exact h
    · exact absurd h (by simp [hf, hv])
  have entry : (latch c s).entry c = (latchMarked c s).entry c := by rw [latch_eq]; split <;> simp [moved]
  rw [entry, latchMarked_entry, if_pos rfl]

theorem reportWith_condition {c : Cause} (hf : c ≠ .following) (hv : c ≠ .valveSat) (exit v : Bool) (s : State) :
    ((reportWith exit c v s).entry c).condition = v := by
  have stored : ((withCondition c v s).entry c).condition = v := by rw [withCondition_entry, if_pos rfl]
  cases v with
  | false =>
    obtain e | e := reportWith_fall_cases exit c s <;> rw [e]
    · exact stored
    · rw [clearEntry_entry, if_pos rfl]; exact stored
  | true =>
    cases hc : (s.entry c).condition with
    | true => rw [reportWith_same hc]; exact hc
    | false =>
      cases hl : (s.entry c).latched with
      | true => rw [reportWith_rise_latched hl fun k => hf k.1]; exact stored
      | false => rw [reportWith_rise hc hl, latch_condition hf hv]; exact stored

/-- A report latches and clears no entry but its own (R5 to R8). -/
theorem reportWith_latched_other {c d : Cause} (hd : d ≠ c) (exit v : Bool) (s : State) :
    ((reportWith exit c v s).entry d).latched = (s.entry d).latched := by
  have stored := withCondition_latched c v s d
  cases v with
  | false =>
    obtain e | e := reportWith_fall_cases exit c s <;> rw [e]
    · exact stored
    · rw [clearEntry_entry, if_neg hd]; exact stored
  | true =>
    cases hc : (s.entry c).condition with
    | true => rw [reportWith_same hc]
    | false =>
      cases hl : (s.entry c).latched with
      | false => rw [reportWith_rise hc hl, latch_entry_latched, if_neg hd]; exact stored
      | true =>
        by_cases hn : c = .following ∧ s.posture = .unload
        · obtain ⟨rfl, hp⟩ := hn
          have ends : reportWith exit .following true s =
              endUnload (some .following) .incomplete (appendLater .following (withCondition .following true s)) := by
            simp [reportWith, hc, onRise, hl, hp, withCondition]
          rw [ends, endUnload_entry]
          split <;> exact stored
        · rw [reportWith_rise_latched hl hn]; exact stored

/-- A latch moves no posture from IDLE and SAFE (R13). -/
theorem postureOnLatch_rests (c : Cause) (cls : Machine.Class) {s : State} (h : s.posture = .idle ∨ s.posture = .safe) :
    postureOnLatch c cls s = s := by
  unfold postureOnLatch
  obtain h | h := h <;> cases cls <;> simp [h]

/-! ### The hall-stop break of a latch (R12, R88) -/

/-- A hall-stop break is being driven. -/
def Breaking (l : Line) : Prop := ∃ b, l.tx = .breaking b

/-- Work on the slots leaves a break that is being driven (R78, R88). -/
theorem settleTx_breaking {l : Line} (id : Nat) (h : Breaking l) : Breaking (settleTx id l) := by
  obtain ⟨b, hb⟩ := h
  refine ⟨b, ?_⟩
  unfold settleTx
  rw [hb]
  exact hb

theorem enterUnload_breaking (c : Cause) {s : State} (h : Breaking s.line) : Breaking (enterUnload c s).line :=
  settleTx_breaking _ (settleTx_breaking (l := { s.line with holdSlot := {} }) s.settings.stationId h)

theorem enterSafe_breaking (k : Option Cause) (o : Option UnloadOutcome) {s : State} (h : Breaking s.line) :
    Breaking (enterSafe k o s).line :=
  settleTx_breaking (l := { s.line with holdSlot := {} }) s.settings.stationId h

theorem reviseHoldDemand_breaking (c : Cause) {s : State} (h : Breaking s.line) :
    Breaking (reviseHoldDemand c s).line := by
  unfold reviseHoldDemand
  split
  · split
    · exact settleTx_breaking _ h
    · exact h
  · split
    · exact h
    · split
      · exact settleTx_breaking _ h
      · exact h

theorem postureOnLatch_breaking (c : Cause) (cls : Machine.Class) {s : State} (h : Breaking s.line) :
    Breaking (postureOnLatch c cls s).line := by
  obtain ⟨e, -⟩ | ⟨-, -, e⟩ | ⟨-, -, e⟩ | ⟨-, -, e⟩ | ⟨-, -, -, e⟩ | ⟨-, -, e⟩ | ⟨-, -, e⟩ :=
    postureOnLatch_cases c cls s <;> rw [e]
  · exact h
  · exact h
  · exact h
  · exact enterUnload_breaking c h
  · exact h
  · exact enterSafe_breaking _ _ h
  · exact enterSafe_breaking _ _ h

/-- An entry with the hall-stop property that latches brings a break (R12). -/
theorem latch_breaking {c : Cause} {s : State} (h : hallStopOf s.settings c = true) (hid : s.settings.stationId ≠ 0) :
    Breaking (latch c s).line := by
  have marked : Breaking (latchMarked c s).line := by
    have asked : ∀ u : State, u.settings.stationId ≠ 0 → Breaking (askBreak u).line := fun u hu => by
      unfold askBreak
      rw [if_neg hu]
      exact startBreak_breaks u.line
    unfold latchMarked
    simp only [h, if_true]
    exact asked _ hid
  rw [latch_eq]
  split
  · exact reviseHoldDemand_breaking c (postureOnLatch_breaking c _ marked)
  · exact postureOnLatch_breaking c _ marked

/-! ### The debounce -/

/-- An input change taken: nothing at the same level, and otherwise the timer runs where the level is not the debounced
one (R24). -/
theorem changeInput_eq (debounce : Nat) (isOpen : Bool) (p : PortLine) : changeInput debounce isOpen p =
    if p.inputOpen = isOpen then p
    else { p with
      inputOpen := isOpen, timer := if isOpen = p.debouncedOpen then none else some (debounce * 1000) } := by
  unfold changeInput
  split
  · rfl
  · by_cases h : isOpen = p.debouncedOpen <;> simp [h, Config.millisecond]

/-- The input taken as the debounced level of a line (R24). -/
def debouncedPort (p : PortLine) : PortLine := { p with debouncedOpen := p.inputOpen, timer := none }

theorem debounced_of_timer {l : Fin 4} {s : State} {left : Nat} (h : s.ports[l].timer = some left) :
    debounced l s = report (.interlock l) (s.settings.interlock[l].enable && s.ports[l].inputOpen)
      (setPort l (debouncedPort s.ports[l]) s) := by
  have value : interlockCondition s.settings.interlock[l] (setPort l (debouncedPort s.ports[l]) s).ports[l] =
      (s.settings.interlock[l].enable && s.ports[l].inputOpen) := by
    rw [setPort_getElem, if_pos rfl]; rfl
  rw [debounced, if_pos (by rw [h]; rfl), ← value]
  rfl

/-- Settles O43. -/
theorem interlockLinesAreDebounced : Obligations.InterlockLinesAreDebounced := by
  intro l isOpen s
  have change : exec (.interlockInputChange l isOpen) s =
      .next (setPort l (changeInput s.settings.debounceTime isOpen s.ports[l]) s) := rfl
  have expiry : exec (.debounceExpiry l) s = .next (debounced l s) := rfl
  refine ⟨fun h => ?_, fun h => ?_, fun h => ?_, fun left h => ?_⟩
  · rw [change, changeInput_eq, if_pos h, setPort]
    simp
  · rw [change, changeInput_eq, if_neg h]; rfl
  · rw [expiry, debounced, h]; rfl
  · have k := report_keeps (.interlock l) (s.settings.interlock[l].enable && s.ports[l].inputOpen)
      (setPort l (debouncedPort s.ports[l]) s)
    have condition := reportWith_condition (c := .interlock l) (by simp) (by simp) true
      (s.settings.interlock[l].enable && s.ports[l].inputOpen) (setPort l (debouncedPort s.ports[l]) s)
    refine ⟨_, expiry, ?_⟩
    rw [debounced_of_timer h]
    refine ⟨k.ports, condition, k.strain, k.crack, k.entries, fun d hd => reportWith_latched_other hd _ _ _,
      fun same => ?_, fun hen hin hc hl => ?_⟩
    · have held : ((setPort l (debouncedPort s.ports[l]) s).entry (.interlock l)).condition =
          (s.settings.interlock[l].enable && s.ports[l].inputOpen) := same.symm.trans condition
      rw [report, reportWith_same held]
      exact ⟨rfl, rfl⟩
    · have rises : report (.interlock l) (s.settings.interlock[l].enable && s.ports[l].inputOpen)
          (setPort l (debouncedPort s.ports[l]) s) =
          latch (.interlock l) (withCondition (.interlock l) true (setPort l (debouncedPort s.ports[l]) s)) := by
        rw [hen, hin]; exact reportWith_rise hc hl
      rw [rises]
      refine ⟨latch_latched _ _, fun hs hid => latch_breaking hs hid, fun hcls hp => ?_, fun hcls hp => ?_,
        fun hcls hp => ?_, fun hp => ?_⟩
      · have class_eq : classOf s.settings (.interlock l) = .safe := hcls
        obtain hp | hp := hp <;> simp [latch_posture, postureOnLatch_posture, class_eq, hp]
      · have class_eq : classOf s.settings (.interlock l) = .unload := hcls
        obtain hp | hp := hp <;> simp [latch_posture, postureOnLatch_posture, class_eq, hp]
      · have class_eq : classOf s.settings (.interlock l) = .hold := hcls
        simp [latch_posture, postureOnLatch_posture, class_eq, hp]
      · rw [latch_posture, postureOnLatch_rests _ _ (by simpa using hp)]
        simp

end Sys2Proof.Postures

/-! ## Reports in IDLE (R5 to R8, R13)

A posture that no latch moves: a report touches its own entry, the line and the notices. -/

namespace Sys2Proof.Postures

open Sys2Proof Sys2Proof.Machine Sys2Proof.Laws Sys2Proof.Safety Sys2Proof.Claims

/-- Nothing but entry c, the line and the notices has changed, and one notice at most was handed over. -/
structure Reported (c : Cause) (s t : State) : Prop where
  confined : Confined s t
  posture : t.posture = s.posture
  program : t.program = s.program
  crack : t.crack = s.crack
  others : ∀ d, d ≠ c → t.entry d = s.entry d
  notices : t.link.notices = s.link.notices ∨ ∃ n, t.link.notices = queueNotice s.time n s.link.notices

theorem Reported.refl (c : Cause) (s : State) : Reported c s s := ⟨.refl s, rfl, rfl, rfl, fun _ _ => rfl, .inl rfl⟩

theorem withCondition_reported (c : Cause) (v : Bool) (s : State) : Reported c s (withCondition c v s) :=
  ⟨withCondition_confined c v s, rfl, rfl, rfl, fun d hd => by rw [withCondition_entry, if_neg hd], .inl rfl⟩

/-- Work behind a stored condition is work from the state before it. -/
theorem Reported.behind {c : Cause} {v : Bool} {s t : State} (h : Reported c (withCondition c v s) t) :
    Reported c s t where
  confined := (withCondition_confined c v s).trans h.confined
  posture := h.posture
  program := h.program
  crack := h.crack
  others d hd := (h.others d hd).trans ((withCondition_reported c v s).others d hd)
  notices := h.notices

theorem clearLatch_reported (c : Cause) (s : State) : Reported c s (clearLatch c s) where
  confined := clearLatch_confined c s
  posture := clearLatch_posture c s
  program := clearLatch_program c s
  crack := (clearLatch_keeps c s).crack
  others d hd := by rw [clearLatch_entry, if_neg hd]
  notices := .inr ⟨.causeCleared c, by rw [clearLatch_eq]; split <;> simp⟩

/-- Out of HOLD no clear brings HOLD exit (R15). -/
theorem clearEntry_out_of_hold {s : State} (exit : Bool) (k : Option Cause) (c : Cause) (h : s.posture ≠ .hold) :
    clearEntry exit k c s = clearLatch c s := by
  unfold clearEntry
  split
  · exact if_neg fun hx => h (by simpa using hx.1)
  · rfl

@[simp] theorem latchMarked_link (c : Cause) (s : State) : (latchMarked c s).link =
    { s.link with notices := queueNotice s.time (.causeLatched c (classOf s.settings c)) s.link.notices } := by
  unfold latchMarked
  simp only
  split
  · rw [askBreak_link]; rfl
  · rfl

/-- In IDLE a latch is its mark, and the hold demand revised behind it (R13, R121). -/
theorem latch_in_idle {c : Cause} {s : State} (hp : s.posture = .idle) : latch c s =
    if classOf s.settings c = .hold then reviseHoldDemand c (latchMarked c s) else latchMarked c s := by
  rw [latch_eq, postureOnLatch_rests _ _ (.inl (by simpa using hp))]

theorem latch_reported {c : Cause} {s : State} (hp : s.posture = .idle) : Reported c s (latch c s) := by
  have k := latch_keeps c s
  have link : (latch c s).link = (latchMarked c s).link := by rw [latch_in_idle hp]; split <;> simp
  refine ⟨⟨k.time, k.settings, ?_, ?_, ?_, ?_, k.strain, k.ports, k.timers, k.draws, k.pending, ?_⟩, ?_, ?_, k.crack,
    fun d hd => ?_, .inr ⟨_, by rw [link, latchMarked_link]⟩⟩
  · rw [latch_in_idle hp]; split <;> simp
  · rw [latch_in_idle hp]; split <;> simp
  · rw [latch_in_idle hp]; split <;> simp
  · rw [latch_in_idle hp]; split <;> simp
  · rw [link, latchMarked_link]; exact sameHost_notices (sameHost_refl _) _
  · rw [latch_in_idle hp]; split <;> simp
  · rw [latch_in_idle hp]; split <;> simp
  · rw [latch_in_idle hp]; split <;> simp [latchMarked_entry, hd]

theorem report_reported (exit : Bool) (c : Cause) (v : Bool) {s : State} (hp : s.posture = .idle) :
    Reported c s (reportWith exit c v s) := by
  cases v with
  | false =>
    obtain e | e := reportWith_fall_cases exit c s <;> rw [e]
    · exact withCondition_reported c false s
    · rw [clearEntry_out_of_hold _ _ _ (by simp [hp])]
      exact (clearLatch_reported c _).behind
  | true =>
    cases hc : (s.entry c).condition with
    | true => rw [reportWith_same hc]; exact .refl c s
    | false =>
      cases hl : (s.entry c).latched with
      | true =>
        rw [reportWith_rise_latched hl fun k => absurd k.2 (by simp [hp])]
        exact withCondition_reported c true s
      | false => rw [reportWith_rise hc hl]; exact (latch_reported (s := withCondition c true s) hp).behind

/-! ### The line (R12, R121) -/

/-- Out of HOLD a demand that is none stays none (R121). -/
theorem reviseHoldDemand_of_none (c : Cause) {s : State} (hp : s.posture ≠ .hold) (h0 : s.line.holdTime = 0) :
    reviseHoldDemand c s = s := by
  unfold reviseHoldDemand
  rw [if_neg fun k => hp k.1, if_pos h0]

/-- A report in IDLE leaves the line where its entry asks for no break and no hold demand stands to fall (R12, R121). -/
theorem report_line (exit : Bool) {c : Cause} (v : Bool) {s : State} (hp : s.posture = .idle)
    (hb : hallStopOf s.settings c = false) (hd : classOf s.settings c ≠ .hold ∨ s.line.holdTime = 0) :
    (reportWith exit c v s).line = s.line := by
  have revised : ∀ u : State, u.posture = .idle → u.line = s.line → classOf s.settings c = .hold →
      (reviseHoldDemand c u).line = s.line := fun u hu hline hcls => by
    rw [reviseHoldDemand_of_none c (by simp [hu]) (by rw [hline]; exact hd.resolve_left (not_not_intro hcls)), hline]
  cases v with
  | false =>
    obtain e | e := reportWith_fall_cases exit c s <;> rw [e]
    · rfl
    · rw [clearEntry_out_of_hold _ _ _ (by simp [hp]), clearLatch_eq]
      split
      next hcls => exact revised _ hp rfl hcls
      · rfl
  | true =>
    cases hc : (s.entry c).condition with
    | true => rw [reportWith_same hc]
    | false =>
      cases hl : (s.entry c).latched with
      | true => rw [reportWith_rise_latched hl fun k => absurd k.2 (by simp [hp])]; rfl
      | false =>
        have marked : (latchMarked c (withCondition c true s)).line = s.line := latchMarked_line hb
        rw [reportWith_rise hc hl, latch_in_idle (s := withCondition c true s) hp]
        split
        next hcls => exact revised _ (by simpa using hp) marked hcls
        · exact marked

/-- A condition that rises latches its entry, latched before or not (R6, R7, R8). -/
theorem report_rise_latched {c : Cause} (hf : c ≠ .following) (exit : Bool) {s : State}
    (hc : (s.entry c).condition = false) : ((reportWith exit c true s).entry c).latched = true := by
  cases hl : (s.entry c).latched with
  | true => rw [reportWith_rise_latched hl fun k => hf k.1, withCondition_latched, hl]
  | false => rw [reportWith_rise hc hl, latch_latched]

/-! ### A notice that stands in the queue (R190) -/

/-- A notice stored before the queue's last place stays where it is (R190). -/
theorem queueNotice_getElem? (t : BitVec 32) (n : Notice) {q : List NoticeEntry} {k : Nat} (hk : k < q.length)
    (h30 : k ≤ 30) : (queueNotice t n q)[k]? = q[k]? := by
  obtain ⟨-, e⟩ | ⟨-, e⟩ | ⟨hlen, e⟩ := queueNotice_cases t n q <;> rw [e]
  · exact List.getElem?_append_left hk
  · exact List.getElem?_append_left hk
  · unfold bumpOverflow
    split
    · rw [List.getElem?_append_left (by rw [List.length_dropLast]; omega), List.getElem?_dropLast, if_pos (by omega)]
    · rfl

theorem queueNotice_length_le (t : BitVec 32) (n : Notice) (q : List NoticeEntry) :
    q.length ≤ (queueNotice t n q).length := by
  obtain ⟨-, e⟩ | ⟨-, e⟩ | ⟨-, e⟩ := queueNotice_cases t n q <;> rw [e]
  · simp
  · simp
  · rw [bumpOverflow_length]

theorem Reported.notice_stands {c : Cause} {s t : State} (h : Reported c s t) {k : Nat} (hk : k < s.link.notices.length)
    (h30 : k ≤ 30) : t.link.notices[k]? = s.link.notices[k]? ∧ k < t.link.notices.length := by
  obtain e | ⟨n, e⟩ := h.notices <;> rw [e]
  · exact ⟨rfl, hk⟩
  · exact ⟨queueNotice_getElem? _ _ hk h30, Nat.lt_of_lt_of_le hk (queueNotice_length_le _ _ _)⟩

end Sys2Proof.Postures

/-! ## SET of a setting whose change is evaluated at once (R4, R25, R32, R50, R52, R136, R142, R143, R153, R160, R166,
R182) -/

namespace Sys2Proof.Postures

open Sys2Proof Sys2Proof.Machine Sys2Proof.Laws Sys2Proof.Safety Sys2Proof.Claims

/-! ### The setting written (R188) -/

/-- A SET of a new value in range writes it and evaluates what hangs on it (R188). -/
theorem cmdSet_accepts {number index : Nat} {v : Int} {s : State} (hp : s.posture = .idle)
    (ha : settingAllowed number index v s.settings = true) (hn : readSetting number index s.settings ≠ v) :
    ∃ data, cmdSet number index v s =
      (settingChanged number index { s with settings := writeSetting number index v s.settings }, ⟨.ok, data⟩) := by
  have applied : applySetting number index v s =
      settingChanged number index { s with settings := writeSetting number index v s.settings } := if_neg hn
  refine ⟨be 4 (readSetting number index (applySetting number index v s).settings), ?_⟩
  rw [cmdSet, if_neg (by simp [hp]), if_neg (by simp [ha]), applied]
  rfl

theorem withIndex_eq {n index : Nat} {l : Fin n} (h : index = l.val) (f : Fin n → State → State) (s : State) :
    withIndex n index f s = f l s := by
  subst h
  exact dif_pos l.isLt

theorem writeSetting_line {number index : Nat} {l : Fin 4} (h : 26 ≤ number ∧ number ≤ 29) (hi : index = l.val)
    (v : Int) (st : Settings) : writeSetting number index v st =
      { st with interlock := st.interlock.set l (writeLineSetting number v st.interlock[l]) } := by
  subst hi
  simp [writeSetting, h]

theorem writeSetting_strain {number index : Nat} {i : Fin 32} (h : 39 ≤ number ∧ number ≤ 50) (hi : index = i.val)
    (v : Int) (st : Settings) : writeSetting number index v st =
      { st with strain := st.strain.set i (writeStrainSetting number v st.strain[i]) } := by
  subst hi
  simp [writeSetting, h, show ¬number ≤ 29 by omega]

theorem writeSetting_crack {number index : Nat} {i : Fin 8} (h : 55 ≤ number ∧ number ≤ 65) (hi : index = i.val)
    (v : Int) (st : Settings) : writeSetting number index v st =
      { st with crack := st.crack.set i (writeCrackSetting number v st.crack[i]) } := by
  subst hi
  simp [writeSetting, h, show ¬number ≤ 29 by omega, show ¬number ≤ 50 by omega]

/-- The values of a setting of one bit (R201). -/
theorem allowed_bit {number index bound : Nat} {v : Int} {st : Settings}
    (hr : settingRange number = some (bound, within 0 1)) (ha : settingAllowed number index v st = true) :
    v = 0 ∨ v = 1 := by
  simp only [settingAllowed, hr, within, Bool.and_eq_true, decide_eq_true_eq] at ha
  omega

theorem boolOfCode_bit {v : Int} (h : v = 0 ∨ v = 1) : boolOfCode v = decide (v = 1) := by
  obtain rfl | rfl := h <;> rfl

/-! ### The posture stays IDLE -/

/-- Work that leaves IDLE as it is, and the host's side of the link (R184, R185). -/
structure StaysIdle (s t : State) : Prop where
  posture : t.posture = .idle
  host : SameHost s.link t.link

theorem StaysIdle.trans {a b c : State} (h : StaysIdle a b) (k : StaysIdle b c) : StaysIdle a c := by
  have hb : b.link = { a.link with notices := b.link.notices } := h.host
  have hc : c.link = { b.link with notices := c.link.notices } := k.host
  refine ⟨k.posture, ?_⟩
  show c.link = { a.link with notices := c.link.notices }
  rw [hc, hb]

theorem report_staysIdle (exit : Bool) (c : Cause) (v : Bool) {s : State} (hp : s.posture = .idle) :
    StaysIdle s (reportWith exit c v s) :=
  ⟨(report_reported exit c v hp).posture.trans hp, (report_reported exit c v hp).confined.host⟩

theorem StaysIdle.report {r s : State} (h : StaysIdle r s) (c : Cause) (v : Bool) : StaysIdle r (report c v s) :=
  h.trans (report_staysIdle true c v h.posture)

theorem pushNotices_staysIdle (ns : List Notice) {s : State} (hp : s.posture = .idle) :
    StaysIdle s (pushNotices ns s) := by
  induction ns generalizing s with
  | nil => exact ⟨hp, sameHost_refl _⟩
  | cons n ns ih =>
    have first : StaysIdle s (pushNotice n s) := ⟨hp, pushNotice_sameHost n (sameHost_refl _)⟩
    exact first.trans (ih hp)

theorem removePeers_staysIdle (why : ForgetReason) (gone : Peer → Bool) {s : State} (hp : s.posture = .idle) :
    StaysIdle s (removePeers why gone s) := by
  have removed : StaysIdle s (setPeers (s.peers.entries.filter fun e => !gone e) s) := ⟨hp, sameHost_refl _⟩
  exact (((removed.trans (pushNotices_staysIdle _ hp)).report _ _).report _ _).report _ _

theorem idChanged_staysIdle {s : State} (hp : s.posture = .idle) : StaysIdle s (idChanged s) := by
  have lined : ∀ l, StaysIdle s (setLine l s) := fun l => ⟨hp, sameHost_refl _⟩
  exact (lined _).trans (removePeers_staysIdle _ _ hp)

theorem withIndex_staysIdle {n : Nat} {f : Fin n → State → State} (h : ∀ i u, u.posture = .idle → StaysIdle u (f i u))
    (index : Nat) {s : State} (hp : s.posture = .idle) : StaysIdle s (withIndex n index f s) := by
  unfold withIndex
  split
  · exact h _ _ hp
  · exact ⟨hp, sameHost_refl _⟩

/-! ### A strain channel's enable (R136, R142, R143, R148, R153, R160) -/

/-- A channel turned on or off, before the evaluations (R136). -/
def strainTurned (i : Fin 32) (s : State) : State :=
  if s.settings.strain[i].enable then strainEnabled i s else strainDisabled i s

theorem strainEnabled_eq (i : Fin 32) (s : State) : strainEnabled i s =
    { s with strain := { s.strain with
        channels := s.strain.channels.set i { s.strain.channels[i] with
          band := .within, aboveCount := 0, belowCount := 0, last := none, clampFlag := false, extremes := none }
        drift := if s.settings.strain[i].driftWatch then s.strain.drift.set i {} else s.strain.drift } } := by
  unfold strainEnabled
  simp only
  split <;> rfl

theorem strainDisabled_strain (i : Fin 32) (s : State) : (strainDisabled i s).strain =
    { s.strain with channels := s.strain.channels.set i { s.strain.channels[i] with
        band := .disabled, aboveCount := 0, belowCount := 0, zeroing := none } } := by
  unfold strainDisabled abandonZeroing
  rw [setStrainChannel_getElem, if_pos rfl]
  cases hz : s.strain.channels[i].zeroing with
  | none => simp [setStrainChannel, ← hz]
  | some z => simp [setStrainChannel, pushNotice]

theorem strainDisabled_eq (i : Fin 32) (s : State) : strainDisabled i s =
    { s with
      strain := (strainDisabled i s).strain
      link := { s.link with notices := (strainDisabled i s).link.notices } } := by
  unfold strainDisabled abandonZeroing
  split <;> rfl

/-- A zeroing abandoned hands over its notice (R148). -/
theorem strainDisabled_notices {i : Fin 32} {s : State} {z : Zeroing} (h : s.strain.channels[i].zeroing = some z) :
    (strainDisabled i s).link.notices = queueNotice s.time (.zeroAbandoned i .disabled z.count) s.link.notices := by
  unfold strainDisabled abandonZeroing
  rw [setStrainChannel_getElem, if_pos rfl, h]
  rfl

/-- What turning a strain channel touches: its block and the notices (R136, R148). -/
theorem strainTurned_eq (i : Fin 32) (s : State) : strainTurned i s =
    { s with
      strain := (strainTurned i s).strain
      link := { s.link with notices := (strainTurned i s).link.notices } } := by
  unfold strainTurned
  split
  · rw [strainEnabled_eq]
  · exact strainDisabled_eq i s

theorem strainEnableChanged_staysIdle (i : Fin 32) {s : State} (hp : s.posture = .idle) :
    StaysIdle s (strainEnableChanged i s) := by
  have turned : StaysIdle s (strainTurned i s) := by rw [strainTurned_eq]; exact ⟨hp, rfl⟩
  have first : StaysIdle s (evalStrain i (strainTurned i s)) := turned.report _ _
  have derated : StaysIdle s (evalDerate (evalStrain i (strainTurned i s))) := ⟨first.posture, first.host⟩
  exact derated.report _ _

theorem driftWatchChanged_staysIdle (i : Fin 32) {s : State} (hp : s.posture = .idle) :
    StaysIdle s (driftWatchChanged i s) := by
  unfold driftWatchChanged
  split
  · have reset : StaysIdle s (resetDriftRecord i s) := ⟨hp, sameHost_refl _⟩
    exact reset.report _ _
  · exact report_staysIdle true .drift _ hp

theorem settingChanged_staysIdle (number index : Nat) {s : State} (hp : s.posture = .idle) :
    StaysIdle s (settingChanged number index s) := by
  unfold settingChanged
  split
  · exact idChanged_staysIdle hp
  · exact removePeers_staysIdle _ _ hp
  · exact ⟨hp, sameHost_refl _⟩
  · exact ⟨hp, sameHost_refl _⟩
  · exact ⟨hp, sameHost_refl _⟩
  · exact report_staysIdle _ _ _ hp
  · exact report_staysIdle _ _ _ hp
  · exact report_staysIdle _ _ _ hp
  · exact withIndex_staysIdle (fun _ _ => report_staysIdle _ _ _) index hp
  · refine withIndex_staysIdle (fun _ u hu => ?_) index hp
    unfold lineModeChanged
    split <;> exact ⟨hu, sameHost_refl _⟩
  · exact withIndex_staysIdle (fun i _ => strainEnableChanged_staysIdle i) index hp
  · exact ⟨hp, sameHost_refl _⟩
  · exact withIndex_staysIdle (fun _ _ => report_staysIdle _ _ _) index hp
  · exact withIndex_staysIdle (fun i _ => driftWatchChanged_staysIdle i) index hp
  · exact report_staysIdle _ _ _ hp
  · exact withIndex_staysIdle (f := crackEnableChanged) (fun _ _ hu => ⟨hu, sameHost_refl _⟩) index hp
  · exact withIndex_staysIdle (fun _ _ => report_staysIdle _ _ _) index hp
  · refine withIndex_staysIdle (fun _ u hu => ?_) index hp
    unfold crackModeChanged
    split <;> exact ⟨hu, sameHost_refl _⟩
  · exact ⟨hp, sameHost_refl _⟩

/-- What the three evaluations behind a channel's enable leave, from a to d (R142, R143, R160). -/
structure StrainEvaluated (i : Fin 32) (a d : State) : Prop where
  settings : d.settings = a.settings
  crack : d.crack = a.crack
  servo : d.servo = a.servo
  program : d.program = a.program
  strain : d.strain = { a.strain with derateDemand := derateCondition a.settings a.strain }
  drift : (d.entry .drift).condition = driftCondition a.settings a.strain
  own : (d.entry (.strain i)).condition = strainCondition a.settings.strain[i] a.strain.channels[i]
  stands : ∀ k, k < a.link.notices.length → k ≤ 30 → d.link.notices[k]? = a.link.notices[k]?

theorem strainEvaluated {i : Fin 32} {a : State} (hp : a.posture = .idle) :
    StrainEvaluated i a (evalDrift (evalDerate (evalStrain i a))) := by
  have first : Reported (.strain i) a (evalStrain i a) := report_reported true _ _ hp
  have second : Reported .drift (evalDerate (evalStrain i a)) (evalDrift (evalDerate (evalStrain i a))) :=
    report_reported true _ _ (first.posture.trans hp)
  have derated : (evalDerate (evalStrain i a)).strain =
      { a.strain with derateDemand := derateCondition a.settings a.strain } := by
    rw [evalDerate, first.confined.strain, first.confined.settings]
  have settings : (evalDerate (evalStrain i a)).settings = a.settings := first.confined.settings
  refine
    { settings := second.confined.settings.trans settings
      crack := second.crack.trans first.crack
      servo := second.confined.servo.trans first.confined.servo
      program := second.program.trans first.program
      strain := second.confined.strain.trans derated
      drift := ?_
      own := ?_
      stands := fun k hk h30 => ?_ }
  · have value : driftCondition (evalDerate (evalStrain i a)).settings (evalDerate (evalStrain i a)).strain =
        driftCondition a.settings a.strain := by rw [settings, derated]; rfl
    rw [← value]
    exact reportWith_condition (by simp) (by simp) true _ _
  · rw [second.others (.strain i) (by simp)]
    exact reportWith_condition (by simp) (by simp) true _ a
  · obtain ⟨kept, held⟩ := first.notice_stands hk h30
    exact (second.notice_stands (s := evalDerate (evalStrain i a)) held h30).1.trans kept

/-- A channel just turned on or off raises no STRAIN (R136, R142). -/
theorem strainCondition_turned (i : Fin 32) (s : State) :
    strainCondition s.settings.strain[i] (strainTurned i s).strain.channels[i] = false := by
  unfold strainTurned
  split
  · rw [strainEnabled_eq]
    simp [strainCondition, Band.tripped]
  next h => simp only [strainCondition, Bool.not_eq_true _ ▸ h, Bool.false_and]

/-! ### What each evaluation leaves, answered -/

/-- t is u with the exchange of a command sent in s behind it (R187). -/
structure Answered (s u t : State) : Prop where
  frame : t = { u with link := exchanged s t }
  notices : t.link.notices = u.link.notices

theorem answered_afterReply {c : Instr} {code : Byte} {r : Reply} {s u : State} (h : SameHost s.link u.link) :
    Answered s u (afterReply c code r u) := by
  have link : (afterReply c code r u).link = exchanged s (afterReply c code r u) := afterReply_link h
  refine ⟨?_, afterReply_notices c code r u⟩
  refine state_ext ?_ ?_ ?_ ?_ ?_ ?_ ?_ ?_ ?_ ?_ ?_ ?_ ?_ link ?_ ?_ ?_ <;> simp

namespace Answered

section
variable {s u t : State} (h : Answered s u t)
include h

theorem settings : t.settings = u.settings := (congrArg State.settings h.frame).trans rfl
theorem posture : t.posture = u.posture := (congrArg State.posture h.frame).trans rfl
theorem causes : t.causes = u.causes := (congrArg State.causes h.frame).trans rfl
theorem program : t.program = u.program := (congrArg State.program h.frame).trans rfl
theorem servo : t.servo = u.servo := (congrArg State.servo h.frame).trans rfl
theorem line : t.line = u.line := (congrArg State.line h.frame).trans rfl
theorem strain : t.strain = u.strain := (congrArg State.strain h.frame).trans rfl
theorem crack : t.crack = u.crack := (congrArg State.crack h.frame).trans rfl
theorem ports : t.ports = u.ports := (congrArg State.ports h.frame).trans rfl
theorem entry (d : Cause) : t.entry d = u.entry d := by rw [State.entry, State.entry, h.causes]

/-- The frame of a SET whose evaluation is one report. -/
theorem of_reported {e : Cause} {st : Settings} (k : Reported e { s with settings := st } u) :
    t = { s with settings := t.settings, causes := t.causes, line := t.line, link := exchanged s t } := by
  have c := k.confined
  refine h.frame.trans ?_
  rw [h.settings, h.causes, h.line]
  refine state_ext ?_ rfl ?_ rfl ?_ ?_ ?_ ?_ rfl ?_ ?_ ?_ ?_ rfl ?_ ?_ ?_ <;>
    simp [k.posture, k.program, k.crack, c.time, c.holdRecord, c.unloadRecord, c.servo, c.peers, c.strain, c.ports,
      c.timers, c.draws, c.pending]

/-- The same, where the report leaves the line. -/
theorem of_reported_off_line {e : Cause} {st : Settings} (k : Reported e { s with settings := st } u)
    (hline : u.line = s.line) : t = { s with settings := t.settings, causes := t.causes, link := exchanged s t } :=
  (h.of_reported k).trans (by rw [h.line, hline])

end

section
variable {s t : State} {st : Settings}

/-- Floor, ceiling and ramp step maximum (R32). -/
theorem of_reclamp (h : Answered s (reclampQueue { s with settings := st }) t) :
    t = { s with settings := t.settings, program := t.program, link := exchanged s t } ∧
    t.link.notices = s.link.notices ∧
    t.program = { s.program with queue := s.program.queue.map (fun g => { g with
      body := clampBody t.settings g.body
      clamped := g.clamped || decide (clampBody t.settings g.body ≠ g.body) }) } := by
  refine ⟨h.frame.trans ?_, h.notices, ?_⟩
  · rw [h.settings, h.program]; rfl
  · rw [h.settings, h.program]; rfl

/-- An interlock's enable (R25). -/
theorem of_interlock {l : Fin 4} {b : Bool} (hp : s.posture = .idle) (hb : st.interlock[l].enable = b)
    (h : Answered s (reportInterlock l { s with settings := st }) t) :
    (t.entry (.interlock l)).condition = (b && s.ports[l].debouncedOpen) ∧
    (∀ d, d ≠ .interlock l → t.entry d = s.entry d) ∧ t.ports = s.ports ∧ t.strain = s.strain ∧
    ((s.entry (.interlock l)).condition = false → (t.entry (.interlock l)).condition = true →
      (t.entry (.interlock l)).latched = true) ∧
    ((t.entry (.interlock l)).condition = (s.entry (.interlock l)).condition →
      t = { s with settings := t.settings, link := exchanged s t } ∧ t.link.notices = s.link.notices) := by
  have value : reportInterlock l { s with settings := st } =
      report (.interlock l) (b && s.ports[l].debouncedOpen) { s with settings := st } := by rw [← hb]; rfl
  rw [value] at h
  have work := report_reported true (.interlock l) (b && s.ports[l].debouncedOpen) (s := { s with settings := st }) hp
  have condition : (t.entry (.interlock l)).condition = (b && s.ports[l].debouncedOpen) := by
    rw [h.entry]; exact reportWith_condition (by simp) (by simp) true _ _
  refine ⟨condition, fun d hd => (h.entry d).trans (work.others d hd), h.ports.trans work.confined.ports,
    h.strain.trans work.confined.strain, fun hc rises => ?_, fun same => ?_⟩
  · rw [condition] at rises
    rw [h.entry, rises]
    exact report_rise_latched (by simp) true hc
  · have still : report (.interlock l) (b && s.ports[l].debouncedOpen) { s with settings := st } =
        { s with settings := st } := reportWith_same (same.symm.trans condition)
    rw [still] at h
    exact ⟨h.frame.trans (by rw [h.settings]), h.notices⟩

/-- A strain channel's enable (R136, R142, R143, R148, R153, R160). -/
theorem of_strainEnable {ch : Fin 32} (hp : s.posture = .idle)
    (h : Answered s (strainEnableChanged ch { s with settings := st }) t) :
    t.strain.derateDemand = derateCondition t.settings t.strain ∧
    (t.entry .drift).condition = driftCondition t.settings t.strain ∧
    (t.entry (.strain ch)).condition = false ∧ t.crack = s.crack ∧ t.servo = s.servo ∧ t.program = s.program ∧
    t.strain.channels = (strainTurned ch { s with settings := st }).strain.channels ∧
    t.strain.drift = (strainTurned ch { s with settings := st }).strain.drift ∧
    (∀ k, k < (strainTurned ch { s with settings := st }).link.notices.length → k ≤ 30 →
      t.link.notices[k]? = (strainTurned ch { s with settings := st }).link.notices[k]?) := by
  have turned := strainTurned_eq ch { s with settings := st }
  have settings : (strainTurned ch { s with settings := st }).settings = st :=
    (congrArg State.settings turned).trans rfl
  have crack : (strainTurned ch { s with settings := st }).crack = s.crack := (congrArg State.crack turned).trans rfl
  have servo : (strainTurned ch { s with settings := st }).servo = s.servo := (congrArg State.servo turned).trans rfl
  have program : (strainTurned ch { s with settings := st }).program = s.program :=
    (congrArg State.program turned).trans rfl
  have evaluated := strainEvaluated (i := ch) (((congrArg State.posture turned).trans rfl).trans hp)
  have strain := h.strain.trans evaluated.strain
  have own := (congrArg CauseEntry.condition (h.entry (.strain ch))).trans evaluated.own
  have quiet := strainCondition_turned ch { s with settings := st }
  have drift := (congrArg CauseEntry.condition (h.entry .drift)).trans evaluated.drift
  have written := h.settings.trans evaluated.settings
  rw [written, strain]
  refine ⟨rfl, drift, ?_, h.crack.trans (evaluated.crack.trans crack), h.servo.trans (evaluated.servo.trans servo),
    h.program.trans (evaluated.program.trans program), rfl, rfl, fun k hk h30 => ?_⟩
  · rw [own]
    simp only [settings]
    exact quiet
  · rw [h.notices]
    exact evaluated.stands k hk h30

/-- A channel's drift-watch (R153, R160). -/
theorem of_driftWatch {ch : Fin 32} (hp : s.posture = .idle)
    (h : Answered s (driftWatchChanged ch { s with settings := st }) t) :
    (t.entry .drift).condition = driftCondition t.settings t.strain ∧
    (∀ d, d ≠ .drift → t.entry d = s.entry d) ∧ t.strain.channels = s.strain.channels ∧
    t.strain.drift = (if watchedChannel st.strain[ch] then s.strain.drift.set ch {} else s.strain.drift) := by
  have reset : ∃ u, driftWatchChanged ch { s with settings := st } = evalDrift { s with settings := st, strain := u } ∧
      u.channels = s.strain.channels ∧
      u.drift = if watchedChannel st.strain[ch] then s.strain.drift.set ch {} else s.strain.drift := by
    unfold driftWatchChanged
    by_cases hw : watchedChannel st.strain[ch]
    · exact ⟨{ s.strain with drift := s.strain.drift.set ch {} }, by rw [if_pos hw]; rfl, rfl, by rw [if_pos hw]⟩
    · exact ⟨s.strain, by rw [if_neg hw], rfl, by rw [if_neg hw]⟩
  obtain ⟨u, e, channels, drift⟩ := reset
  rw [e] at h
  have work := report_reported true .drift (driftCondition st u) (s := { s with settings := st, strain := u }) hp
  have strain : t.strain = u := h.strain.trans work.confined.strain
  rw [h.settings.trans work.confined.settings, strain]
  refine ⟨?_, fun d hd => (h.entry d).trans (work.others d hd), channels, drift⟩
  rw [h.entry]
  exact reportWith_condition (by simp) (by simp) true _ _

/-- A crack channel's enable (R166). -/
theorem of_crackEnable {ch : Fin 8} (h : Answered s (crackEnableChanged ch { s with settings := st }) t) :
    t = { s with settings := t.settings, link := exchanged s t, crack := { s.crack with
      channels := s.crack.channels.set ch { s.crack.channels[ch] with
        detector := if st.crack[ch].enable then .quiet else .disabled } } } ∧ t.link.notices = s.link.notices :=
  ⟨h.frame.trans (by rw [h.settings]; rfl), h.notices⟩

/-- The stroke limits (R52). -/
theorem of_stroke (hp : s.posture = .idle)
    (h : Answered s (report .stroke (strokeCondition st s.servo) { s with settings := st }) t) :
    t = { s with settings := t.settings, causes := t.causes, link := exchanged s t } ∧
    (∀ x, s.servo.displacement = some x → (t.entry .stroke).condition =
      decide (x < t.settings.strokeMin ∨ t.settings.strokeMax < x)) ∧
    ((s.entry .stroke).condition = false → (t.entry .stroke).condition = true → (t.entry .stroke).latched = true) ∧
    (∀ d, d ≠ .stroke → t.entry d = s.entry d) := by
  have work := report_reported true .stroke (strokeCondition st s.servo) (s := { s with settings := st }) hp
  have line := report_line true (c := .stroke) (strokeCondition st s.servo) (s := { s with settings := st }) hp rfl
    (.inl (by simp [classOf]))
  have condition : (t.entry .stroke).condition = strokeCondition st s.servo := by
    rw [h.entry]; exact reportWith_condition (by simp) (by simp) true _ _
  refine ⟨h.of_reported_off_line work line, fun x hx => ?_, fun hc rises => ?_,
    fun d hd => (h.entry d).trans (work.others d hd)⟩
  · rw [condition, h.settings.trans work.confined.settings]
    simp [strokeCondition, hx]
  · rw [condition] at rises
    rw [h.entry, rises]
    exact report_rise_latched (by simp) true hc

/-- The stale limit (R50). -/
theorem of_staleLimit (hp : s.posture = .idle)
    (h : Answered s (report .loadStale (loadStaleCondition st s.servo) { s with settings := st }) t) :
    t = { s with settings := t.settings, causes := t.causes, link := exchanged s t } ∧
    ((t.entry .loadStale).condition = true ↔ s.servo.load = none ∨ t.settings.staleLimit ≤ s.servo.stale) ∧
    (∀ d, d ≠ .loadStale → t.entry d = s.entry d) := by
  have work := report_reported true .loadStale (loadStaleCondition st s.servo) (s := { s with settings := st }) hp
  have line := report_line true (c := .loadStale) (loadStaleCondition st s.servo) (s := { s with settings := st }) hp
    rfl (.inl (by simp [classOf]))
  have condition : (t.entry .loadStale).condition = loadStaleCondition st s.servo := by
    rw [h.entry]; exact reportWith_condition (by simp) (by simp) true _ _
  refine ⟨h.of_reported_off_line work line, ?_, fun d hd => (h.entry d).trans (work.others d hd)⟩
  rw [condition, h.settings.trans work.confined.settings]
  simp [loadStaleCondition]

/-- An interlock's latch mode (R4). -/
theorem of_lineMode {l : Fin 4} (h : Answered s (lineModeChanged l { s with settings := st }) t) :
    t = { s with settings := t.settings, causes := t.causes, link := exchanged s t } ∧
    t.link.notices = s.link.notices ∧ (∀ d, d ≠ .interlock l → t.entry d = s.entry d) ∧
    t.entry (.interlock l) = (if t.settings.interlock[l].mode = .edge
      then { s.entry (.interlock l) with ackPending := false } else s.entry (.interlock l)) := by
  unfold lineModeChanged at h
  by_cases hm : st.interlock[l].mode = .edge
  · rw [if_pos hm] at h
    refine ⟨h.frame.trans (by rw [h.settings, h.causes]; rfl), h.notices, fun d hd => ?_, ?_⟩
    · rw [h.entry]; exact entry_setEntry_other (Ne.symm hd) _ _
    · rw [h.entry, h.settings]
      exact (entry_setEntry_same _ _ _).trans (if_pos hm).symm
  · rw [if_neg hm] at h
    refine ⟨h.frame.trans (by rw [h.settings, h.causes]), h.notices, fun d _ => h.entry d, ?_⟩
    rw [h.entry, h.settings]
    exact (if_neg hm).symm

/-- An action (R143). -/
theorem of_action (h : Answered s (evalDerate { s with settings := st }) t) :
    t = { s with settings := t.settings, link := exchanged s t, strain := { s.strain with
      derateDemand := derateCondition t.settings s.strain } } ∧ t.link.notices = s.link.notices :=
  ⟨h.frame.trans (by rw [h.settings]; rfl), h.notices⟩

/-- A channel's fault-stops (R142). -/
theorem of_faultStops {ch : Fin 32} (hp : s.posture = .idle)
    (h : Answered s (evalStrain ch { s with settings := st }) t) :
    (t.entry (.strain ch)).condition = strainCondition t.settings.strain[ch] s.strain.channels[ch] ∧
    (∀ d, d ≠ .strain ch → t.entry d = s.entry d) ∧ t.strain = s.strain ∧ t.servo = s.servo := by
  have work := report_reported true (.strain ch) (strainCondition st.strain[ch] s.strain.channels[ch])
    (s := { s with settings := st }) hp
  refine ⟨?_, fun d hd => (h.entry d).trans (work.others d hd), h.strain.trans work.confined.strain,
    h.servo.trans work.confined.servo⟩
  have written : t.settings = st := h.settings.trans work.confined.settings
  rw [h.entry]
  simp only [written]
  exact reportWith_condition (by simp) (by simp) true _ _

/-- The drift count (R160). -/
theorem of_driftCount (hp : s.posture = .idle) (h : Answered s (evalDrift { s with settings := st }) t) :
    t = { s with settings := t.settings, causes := t.causes, line := t.line, link := exchanged s t } ∧
    (demandLaw s → t.line = s.line) ∧
    (t.entry .drift).condition = driftCondition t.settings s.strain ∧ (∀ d, d ≠ .drift → t.entry d = s.entry d) := by
  have work := report_reported true .drift (driftCondition st s.strain) (s := { s with settings := st }) hp
  refine ⟨h.of_reported work, fun hd => ?_, ?_, fun d hd => (h.entry d).trans (work.others d hd)⟩
  · have none : s.line.holdTime = 0 := holdTime_of_demandLaw hd (by simp [hp])
    exact h.line.trans (report_line true (c := .drift) _ (s := { s with settings := st }) hp rfl (.inr none))
  · rw [h.entry, h.settings.trans work.confined.settings]
    exact reportWith_condition (by simp) (by simp) true _ _

/-- A crack channel's mask (R182). -/
theorem of_crackMask {ch : Fin 8} (hp : s.posture = .idle)
    (h : Answered s (evalCrack true ch { s with settings := st }) t) :
    (t.entry (.crack ch)).condition = crackCondition st.crack[ch] s.crack.channels[ch] ∧
    (∀ d, d ≠ .crack ch → t.entry d = s.entry d) ∧ t.crack = s.crack ∧ t.servo = s.servo := by
  have work := report_reported true (.crack ch) (crackCondition st.crack[ch] s.crack.channels[ch])
    (s := { s with settings := st }) hp
  refine ⟨?_, fun d hd => (h.entry d).trans (work.others d hd), h.crack.trans work.crack,
    h.servo.trans work.confined.servo⟩
  rw [h.entry]
  exact reportWith_condition (by simp) (by simp) true _ _

/-- A crack channel's latch mode (R4, R181). -/
theorem of_crackMode {ch : Fin 8} (h : Answered s (crackModeChanged ch { s with settings := st }) t) :
    t = { s with settings := t.settings, causes := t.causes, crack := t.crack, link := exchanged s t } ∧
    t.link.notices = s.link.notices ∧ (∀ d, d ≠ .crack ch → t.entry d = s.entry d) ∧
    (t.settings.crack[ch].mode ≠ .edge → t.causes = s.causes ∧ t.crack = s.crack) ∧
    (t.settings.crack[ch].mode = .edge →
      t.entry (.crack ch) = { s.entry (.crack ch) with ackPending := false } ∧
      t.crack = { s.crack with channels := s.crack.channels.set ch { s.crack.channels[ch] with
        alarm := { s.crack.channels[ch].alarm with ackPending := false } } }) := by
  unfold crackModeChanged at h
  by_cases hm : st.crack[ch].mode = .edge
  · rw [if_pos hm] at h
    refine ⟨h.frame.trans (by rw [h.settings, h.causes, h.crack]; rfl), h.notices, fun d hd => ?_, fun hn => ?_,
      fun _ => ⟨?_, h.crack⟩⟩
    · rw [h.entry]; exact entry_setEntry_other (Ne.symm hd) _ { s with settings := st }
    · rw [h.settings] at hn; exact absurd hm hn
    · rw [h.entry]; exact entry_setEntry_same _ _ { s with settings := st }
  · rw [if_neg hm] at h
    refine ⟨h.frame.trans (by rw [h.settings, h.causes, h.crack]), h.notices, fun d _ => h.entry d,
      fun _ => ⟨h.causes, h.crack⟩, fun he => ?_⟩
    rw [h.settings] at he
    exact absurd he hm

end

end Answered

/-! ### What a written setting reads -/

section
variable {i : Nat} {v : Int} {st written : Settings}

/-- The enable of a strain channel, its drift-watch kept (R135). -/
theorem written_strainEnable {ch : Fin 32} (hi : i = ch.val) (hb : v = 0 ∨ v = 1)
    (hw : writeSetting 39 i v st = written) : written.strain[ch].enable = decide (v = 1) ∧
      written.strain[ch].driftWatch = st.strain[ch].driftWatch := by
  subst hw
  rw [writeSetting_strain (by decide) hi, ← boolOfCode_bit hb]
  simp [writeStrainSetting]

/-- The drift-watch of a strain channel, its enable kept (R152). -/
theorem written_driftWatch {ch : Fin 32} (hi : i = ch.val) (hb : v = 0 ∨ v = 1)
    (hw : writeSetting 50 i v st = written) :
    watchedChannel written.strain[ch] = (st.strain[ch].enable && decide (v = 1)) := by
  subst hw
  rw [writeSetting_strain (by decide) hi, ← boolOfCode_bit hb]
  simp [writeStrainSetting, watchedChannel]

/-- The enable of an interlock (R25). -/
theorem written_lineEnable {l : Fin 4} (hi : i = l.val) (hb : v = 0 ∨ v = 1)
    (hw : writeSetting 26 i v st = written) : written.interlock[l].enable = decide (v = 1) := by
  subst hw
  rw [writeSetting_line (by decide) hi, ← boolOfCode_bit hb]
  simp [writeLineSetting]

/-- The enable of a crack channel (R165). -/
theorem written_crackEnable {ch : Fin 8} (hi : i = ch.val) (hb : v = 0 ∨ v = 1)
    (hw : writeSetting 55 i v st = written) : written.crack[ch].enable = decide (v = 1) := by
  subst hw
  rw [writeSetting_crack (by decide) hi, ← boolOfCode_bit hb]
  simp [writeCrackSetting]

/-- The mask of a crack channel (R165). -/
theorem written_crackMask {ch : Fin 8} (hi : i = ch.val) (hb : v = 0 ∨ v = 1)
    (hw : writeSetting 63 i v st = written) : (!written.crack[ch].mask) = decide (v = 0) := by
  subst hw
  rw [writeSetting_crack (by decide) hi]
  obtain rfl | rfl := hb <;> simp [writeCrackSetting, boolOfCode]

end

/-- Settles O12. -/
theorem setOfAnEvaluatedSettingActsAtOnce : Obligations.SetOfAnEvaluatedSettingActsAtOnce := by
  intro n i v s hr hp ha hne
  have taken : exec (.set n i v) s = .next (sendCommand (.set n i v) (cmdSet n.toNat i.toNat v.toInt) s) := rfl
  obtain ⟨data, body⟩ := cmdSet_accepts hp ha hne
  have stays := settingChanged_staysIdle n.toNat i.toNat
    (s := { s with settings := writeSetting n.toNat i.toNat v.toInt s.settings }) hp
  have answered := answered_afterReply (c := .set n i v) (code := 0x01#8) (r := ⟨.ok, data⟩) (s := s) stays.host
  have ran := exec_of_body taken rfl hr body
  generalize afterReply (.set n i v) 0x01#8 ⟨.ok, data⟩ (settingChanged n.toNat i.toNat
    { s with settings := writeSetting n.toNat i.toNat v.toInt s.settings }) = t at answered ran
  clear body
  generalize hw : writeSetting n.toNat i.toNat v.toInt s.settings = st at answered stays
  refine ⟨t, ran, answered.posture.trans stays.posture, fun hn => ?_, fun l hn hi => ?_, fun ch hn hi => ?_,
    fun ch hn hi => ?_, fun ch hn hi => ?_, fun hn => ?_, fun hn => ?_, fun l hn hi => ?_, fun hn => ?_,
    fun ch hn hi => ?_, fun hn => ?_, fun ch hn hi _ => ?_, fun ch hn hi => ?_⟩
  · obtain rfl | rfl | rfl := hn <;> exact Answered.of_reclamp answered
  · subst hn
    have h : Answered s (withIndex 4 i.toNat reportInterlock { s with settings := st }) t := answered
    rw [withIndex_eq hi] at h
    exact Answered.of_interlock hp (written_lineEnable hi (allowed_bit rfl ha) hw) h
  · subst hn
    have h : Answered s (withIndex 32 i.toNat strainEnableChanged { s with settings := st }) t := answered
    rw [withIndex_eq hi] at h
    obtain ⟨derate, drift, own, crack, servo, program, channels, records, stands⟩ := Answered.of_strainEnable hp h
    obtain ⟨enable, watch⟩ := written_strainEnable hi (allowed_bit rfl ha) hw
    refine ⟨derate, drift, own, crack, servo, program, fun h1 => ?_, fun h0 => ?_⟩
    · have turned : strainTurned ch { s with settings := st } = strainEnabled ch { s with settings := st } :=
        if_pos (enable.trans (decide_eq_true h1))
      rw [channels, records, turned, strainEnabled_eq]
      exact ⟨rfl, by simp only [watch]⟩
    · have off : st.strain[ch].enable = false := enable.trans (decide_eq_false (by omega))
      have turned : strainTurned ch { s with settings := st } = strainDisabled ch { s with settings := st } :=
        if_neg (by simp [off, -Fin.getElem_fin])
      rw [turned] at channels records stands
      rw [channels, records, strainDisabled_strain]
      refine ⟨rfl, rfl, fun z hz hlen => ?_⟩
      have handed : (strainDisabled ch { s with settings := st }).link.notices =
          s.link.notices ++ [⟨s.time, .zeroAbandoned ch .disabled z.count⟩] :=
        (strainDisabled_notices (s := { s with settings := st }) hz).trans (if_pos hlen)
      rw [handed] at stands
      rw [stands _ (by simp) hlen]
      simp
  · subst hn
    have h : Answered s (withIndex 32 i.toNat driftWatchChanged { s with settings := st }) t := answered
    rw [withIndex_eq hi] at h
    obtain ⟨condition, others, channels, drift⟩ := Answered.of_driftWatch hp h
    refine ⟨condition, others, channels, ?_⟩
    rw [drift, written_driftWatch hi (allowed_bit rfl ha) hw]
    simp only [Bool.and_eq_true, decide_eq_true_eq, and_comm]
  · subst hn
    have h : Answered s (withIndex 8 i.toNat crackEnableChanged { s with settings := st }) t := answered
    rw [withIndex_eq hi] at h
    have acts := Answered.of_crackEnable h
    rw [written_crackEnable hi (allowed_bit rfl ha) hw] at acts
    simpa only [decide_eq_true_eq] using acts
  · obtain rfl | rfl := hn <;> exact Answered.of_stroke hp answered
  · subst hn
    exact Answered.of_staleLimit hp answered
  · subst hn
    have h : Answered s (withIndex 4 i.toNat lineModeChanged { s with settings := st }) t := answered
    rw [withIndex_eq hi] at h
    exact Answered.of_lineMode h
  · subst hn
    exact Answered.of_action answered
  · subst hn
    have h : Answered s (withIndex 32 i.toNat evalStrain { s with settings := st }) t := answered
    rw [withIndex_eq hi] at h
    exact Answered.of_faultStops hp h
  · subst hn
    exact Answered.of_driftCount hp answered
  · subst hn
    have h : Answered s (withIndex 8 i.toNat (evalCrack true) { s with settings := st }) t := answered
    rw [withIndex_eq hi] at h
    obtain ⟨condition, rest⟩ := Answered.of_crackMask hp h
    refine ⟨condition.trans ?_, rest⟩
    rw [crackCondition, written_crackMask hi (allowed_bit rfl ha) hw]
  · subst hn
    have h : Answered s (withIndex 8 i.toNat crackModeChanged { s with settings := st }) t := answered
    rw [withIndex_eq hi] at h
    exact Answered.of_crackMode h

end Sys2Proof.Postures

/-! ## What the posture controller's work is made of

Every report, latch, clear and acknowledgement is a run of a few pieces, as far as the posture, the program unit, the
notices, the hit FIFO and the slots of the hall line go. -/

namespace Sys2Proof.LoadProgram

open Sys2Proof Sys2Proof.Machine Sys2Proof.Laws Sys2Proof.Safety Sys2Proof.Claims Sys2Proof.Postures

/-- The transmitter and the three slots are those of another line. -/
structure SameTraffic (l m : Line) : Prop where
  tx : m.tx = l.tx
  unloadSlot : m.unloadSlot = l.unloadSlot
  holdSlot : m.holdSlot = l.holdSlot
  reportSlot : m.reportSlot = l.reportSlot

/-- Nothing that the laws of segment queue, notice queue, hit FIFO and hall line read has changed. -/
structure Still (s t : State) : Prop where
  posture : t.posture = s.posture
  program : t.program = s.program
  notices : t.link.notices = s.link.notices
  fifo : t.crack.fifo = s.crack.fifo
  gap : t.crack.gap = s.crack.gap
  traffic : SameTraffic s.line t.line

theorem SameTraffic.refl (l : Line) : SameTraffic l l := ⟨rfl, rfl, rfl, rfl⟩

theorem Still.refl (s : State) : Still s s := ⟨rfl, rfl, rfl, rfl, rfl, .refl _⟩

/-- One piece of the posture controller's work; a hall-stop break is one only where `breaks` allows it. -/
inductive Piece (breaks : Bool) : State → State → Prop
  | still {s t : State} : Still s t → Piece breaks s t
  | notice {s : State} (n : Notice) : Piece breaks s (pushNotice n s)
  | leaves {s : State} (p : Posture) (k : Option Cause) (o : Option UnloadOutcome) : p ≠ .idle →
      (p = .run ∨ p = .hold → s.posture = .run) → Piece breaks s (changePosture p k o s)
  | runs {s : State} (k : Option Cause) : Piece breaks s (enterRun k s)
  | holdNotice {s : State} (n : NoticeContent) : Piece breaks s (placeHoldNotice n s)
  | unloadNotice {s : State} (n : NoticeContent) : Piece breaks s (placeUnloadNotice n s)
  | emptied {s : State} : Piece breaks s (emptyHoldSlot s)
  | breaks {s : State} : breaks = true → Piece breaks s (askBreak s)

/-- A run of pieces. -/
abbrev Pieces (breaks : Bool) : State → State → Prop := Relation.ReflTransGen (Piece breaks)

section
variable {b : Bool}

theorem Still.pieces {s t : State} (h : Still s t) : Pieces b s t := .single (.still h)

theorem setEntry_still (c : Cause) (e : CauseEntry) (s : State) : Still s (setEntry c e s) :=
  { Still.refl s with }

theorem dropDemand_still (s : State) : Still s (dropDemand s) :=
  { Still.refl s with traffic := ⟨rfl, rfl, rfl, rfl⟩ }

theorem reviseHoldDemand_pieces (c : Cause) (s : State) : Pieces b s (reviseHoldDemand c s) := by
  unfold reviseHoldDemand
  split
  · split
    · refine Still.pieces ?_ |>.tail (.holdNotice _)
      exact { Still.refl s with traffic := ⟨rfl, rfl, rfl, rfl⟩ }
    · exact .refl
  · split
    · exact .refl
    · split
      · exact (dropDemand_still s).pieces.tail (.holdNotice _)
      · exact (dropDemand_still s).pieces

theorem enterHold_pieces (c : Cause) {s : State} (hp : s.posture = .run) : Pieces b s (enterHold c s) :=
  (Still.pieces (t := writeHoldRecord c s) { Still.refl s with }).tail (.leaves _ _ _ (by simp) fun _ => hp)

theorem enterUnload_pieces (c : Cause) (s : State) : Pieces b s (enterUnload c s) := by
  have left : Pieces b s (changePosture .unload (some c) none (writeUnloadRecord c s)) :=
    (Still.pieces (t := writeUnloadRecord c s) { Still.refl s with }).tail (.leaves _ _ _ (by simp) (by simp))
  have begun : ∀ u, Still u (beginUnload u) := fun u => { Still.refl u with }
  exact (((left.trans (begun _).pieces).tail .emptied).trans (dropDemand_still _).pieces).tail (.unloadNotice _)

theorem enterSafe_pieces (k : Option Cause) (o : Option UnloadOutcome) (s : State) :
    Pieces b s (enterSafe k o s) := by
  have left : Pieces b s (changePosture .safe k o s) := .single (.leaves _ _ _ (by simp) (by simp))
  have rested : ∀ u, Still u (lowerLoopConditions (restLoop u)) := fun u => { Still.refl u with }
  exact ((left.trans (rested _).pieces).tail .emptied).trans (dropDemand_still _).pieces

theorem endUnload_pieces (k : Option Cause) (o : UnloadOutcome) (s : State) : Pieces b s (endUnload k o s) :=
  (Still.pieces (t := setOutcome o s) { Still.refl s with }).trans (enterSafe_pieces _ _ _)

theorem endUnload_appendLater_pieces (k : Option Cause) (o : UnloadOutcome) (c : Cause) (s : State) :
    Pieces b s (endUnload k o (appendLater c s)) :=
  (Still.pieces (t := appendLater c s) { Still.refl s with }).trans (endUnload_pieces k o _)

theorem postureOnLatch_pieces (c : Cause) (cls : Machine.Class) (s : State) : Pieces b s (postureOnLatch c cls s) := by
  obtain ⟨e, -⟩ | ⟨-, hp, e⟩ | ⟨-, -, e⟩ | ⟨-, -, e⟩ | ⟨-, -, -, e⟩ | ⟨-, -, e⟩ | ⟨-, -, e⟩ :=
    postureOnLatch_cases c cls s <;> rw [e]
  · exact enterHold_pieces c hp
  · exact Still.pieces { Still.refl s with }
  · exact enterUnload_pieces c s
  · exact Still.pieces { Still.refl s with }
  · exact endUnload_appendLater_pieces _ _ c s
  · exact (Still.pieces (t := setOutcome .incomplete (writeUnloadRecord c s)) { Still.refl s with }).trans
      (enterSafe_pieces _ _ _)

theorem latchMarked_pieces (c : Cause) (s : State) : Pieces (hallStopOf s.settings c) s (latchMarked c s) := by
  unfold latchMarked
  simp only
  have noticed := fun e => ((setEntry_still c e s).pieces (b := hallStopOf s.settings c)).tail
    (.notice (.causeLatched c (classOf s.settings c)))
  split
  next h => exact (noticed _).tail (.breaks h)
  · exact noticed _

theorem latch_pieces (c : Cause) (s : State) : Pieces (hallStopOf s.settings c) s (latch c s) := by
  have moved := (latchMarked_pieces c s).trans (postureOnLatch_pieces c (classOf s.settings c) (latchMarked c s))
  rw [latch_eq]
  split
  · exact moved.trans (reviseHoldDemand_pieces c _)
  · exact moved

theorem holdExit_pieces (k : Option Cause) (s : State) : Pieces b s (holdExit k s) := by
  unfold holdExit
  split
  · exact .single (.runs k)
  · exact .refl

theorem clearLatch_pieces (c : Cause) (s : State) : Pieces b s (clearLatch c s) := by
  have noticed := fun e => ((setEntry_still c e s).pieces (b := b)).tail (.notice (.causeCleared c))
  rw [clearLatch_eq]
  split
  · exact (noticed _).trans (reviseHoldDemand_pieces c _)
  · exact noticed _

theorem clearEntry_pieces (exit : Bool) (k : Option Cause) (c : Cause) (s : State) :
    Pieces b s (clearEntry exit k c s) := by
  unfold clearEntry
  split
  · exact (clearLatch_pieces c s).trans (holdExit_pieces k _)
  · exact clearLatch_pieces c s

theorem reportWith_pieces (exit : Bool) (c : Cause) (v : Bool) (s : State) :
    Pieces (hallStopOf s.settings c) s (reportWith exit c v s) := by
  have stored : Pieces (hallStopOf s.settings c) s (setEntry c { s.entry c with condition := v } s) :=
    (setEntry_still c _ s).pieces
  cases v with
  | false =>
    obtain e | e := reportWith_fall_cases exit c s <;> rw [e]
    · exact stored
    · exact stored.trans (clearEntry_pieces exit (some c) c _)
  | true =>
    unfold reportWith onRise
    split
    · exact .refl
    · simp only [if_true]
      split
      · split
        · exact stored.trans (endUnload_appendLater_pieces _ _ c _)
        · exact stored
      · exact stored.trans (latch_pieces c (setEntry c _ s))

theorem report_pieces (c : Cause) (v : Bool) (s : State) : Pieces (hallStopOf s.settings c) s (report c v s) :=
  reportWith_pieces true c v s

theorem pushNotices_pieces (ns : List Notice) (s : State) : Pieces b s (pushNotices ns s) :=
  foldl_reflTransGen (fun _ n => .single (.notice n)) ns s

theorem ackEntry_pieces (exit : Bool) (c : Cause) (s : State) : Pieces b s (ackEntry exit c s) := by
  obtain e | e | e := ackEntry_cases exit c s <;> rw [e]
  · exact (setEntry_still c _ s).pieces
  · exact clearEntry_pieces exit none c s

end

end Sys2Proof.LoadProgram

/-! ## The four laws of the queues, operation by operation -/

namespace Sys2Proof.LoadProgram

open Sys2Proof Sys2Proof.Machine Sys2Proof.Laws Sys2Proof.Safety Sys2Proof.Claims Sys2Proof.Postures

/-! ### The segment queue (R29, R34, R43, R44) -/

/-- The law of the segment queue but for the one clause that the program unit's own work breaks for a moment, between a
segment's end and the next one's start. -/
structure Ordered (posture : Posture) (p : Program) : Prop where
  room : p.queue.length ≤ 32
  seqs : p.queue.map (fun g => g.seq) = (List.range p.queue.length).map (fun k => seqAfter p.lastCompleted (k + 1))
  next : p.nextToAssign = seqAfter p.lastCompleted (p.queue.length + 1)
  flies : p.flight.isSome = true → p.queue ≠ [] ∧ posture ≠ .idle
  flags : posture ≠ .run → p.paced = false ∧ p.starved = false

/-- In RUN and HOLD a segment waits only behind one in flight (R34). -/
def NoneWaits (posture : Posture) (p : Program) : Prop :=
  posture = .run ∨ posture = .hold → p.flight = none → p.queue = []

theorem programLaw_iff (s : State) : programLaw s ↔ Ordered s.posture s.program ∧ NoneWaits s.posture s.program :=
  ⟨fun ⟨room, seqs, next, flies, waits, flags⟩ => ⟨⟨room, seqs, next, flies, flags⟩, waits⟩,
    fun ⟨⟨room, seqs, next, flies, flags⟩, waits⟩ => ⟨room, seqs, next, flies, waits, flags⟩⟩

/-- Work that keeps the sequence numbers and takes nothing into flight keeps the order. -/
theorem Ordered.congr {a b : Posture} {p q : Program} (h : Ordered a p)
    (seqs : q.queue.map (fun g => g.seq) = p.queue.map (fun g => g.seq)) (last : q.lastCompleted = p.lastCompleted)
    (next : q.nextToAssign = p.nextToAssign) (flies : q.flight.isSome = true → p.flight.isSome = true)
    (posture : b = .idle → a = .idle) (flags : b ≠ .run → q.paced = false ∧ q.starved = false) : Ordered b q := by
  have len : q.queue.length = p.queue.length := by simpa using congrArg List.length seqs
  refine ⟨len ▸ h.room, ?_, ?_, fun hf => ?_, flags⟩
  · rw [seqs, len, last, h.seqs]
  · rw [next, len, last, h.next]
  · obtain ⟨filled, away⟩ := h.flies (flies hf)
    exact ⟨fun e => filled (List.length_eq_zero_iff.mp (by rw [← len, e]; rfl)), fun e => away (posture e)⟩

theorem seqAfter_succ (q : BitVec 16) (k : Nat) : seqAfter q (k + 1) = seqAfter q k + 1 := by
  simp [seqAfter, BitVec.ofNat_add, BitVec.add_assoc]

theorem seqAfter_one (q : BitVec 16) (k : Nat) : seqAfter (seqAfter q 1) k = seqAfter q (k + 1) := by
  simp only [seqAfter, BitVec.ofNat_add]
  rw [BitVec.add_assoc, BitVec.add_comm (BitVec.ofNat 16 1)]

/-- The head of the queue carries the number behind the last completed (R29). -/
theorem Ordered.head {a : Posture} {p : Program} {seg : Segment} {rest : List Segment} (h : Ordered a p)
    (hq : p.queue = seg :: rest) : seg.seq = seqAfter p.lastCompleted 1 ∧
      rest.map (fun g => g.seq) = (List.range rest.length).map (fun k => seqAfter seg.seq (k + 1)) := by
  have seqs := h.seqs
  rw [hq, List.length_cons, List.range_succ_eq_map, List.map_cons, List.map_cons, List.map_map, List.cons.injEq] at seqs
  refine ⟨seqs.1, ?_⟩
  rw [seqs.2, seqs.1]
  exact List.map_congr_left fun k _ => (seqAfter_one _ _).symm

/-- The head that leaves leaves the queue in order (R38, R42). -/
theorem retireHead_ordered {seg : Segment} {rest : List Segment} {s : State} (hq : s.program.queue = seg :: rest)
    (h : Ordered s.posture s.program) : Ordered (retireHead seg s).posture (retireHead seg s).program := by
  obtain ⟨number, seqs⟩ := h.head hq
  have room : rest.length + 1 ≤ 32 := by simpa [hq] using h.room
  refine ⟨?_, ?_, ?_, fun k => (by cases k), h.flags⟩ <;> simp only [retireHead, hq, List.tail_cons]
  · omega
  · exact seqs
  · rw [h.next, hq, number, seqAfter_one]; rfl

/-- A segment that joins the tail carries the next number (R30). -/
theorem Ordered.append {a : Posture} {p : Program} (h : Ordered a p) (hroom : p.queue.length < 32) {g : Segment}
    (hg : g.seq = p.nextToAssign) : Ordered a { p with
      queue := p.queue ++ [g], nextToAssign := p.nextToAssign + 1, starved := false } := by
  refine ⟨?_, ?_, ?_, fun hf => ⟨by simp, (h.flies hf).2⟩, fun ha => ⟨(h.flags ha).1, rfl⟩⟩
  · simpa using hroom
  · simp [List.range_succ, h.seqs, hg, h.next]
  · simp only [h.next, List.length_append, List.length_singleton]
    rw [← seqAfter_succ]

/-- Taking a segment into flight keeps the order, and leaves none waiting (R34). -/
theorem takeIntoFlight_ordered {s : State} (h : Ordered s.posture s.program) :
    Ordered (takeIntoFlight s).posture (takeIntoFlight s).program := by
  unfold takeIntoFlight
  split
  next hp =>
    split
    next seg rest _ hq =>
      refine ⟨h.room, h.seqs, h.next, fun _ => ⟨by simp [hq], ?_⟩, h.flags⟩
      obtain hp | hp := hp <;> simp [hp]
    · exact h
  · exact h

theorem takeIntoFlight_noneWaits (s : State) : NoneWaits (takeIntoFlight s).posture (takeIntoFlight s).program := by
  intro hp hf
  rw [takeIntoFlight_posture] at hp
  cases hs : s.program.flight with
  | some g => rw [takeIntoFlight_of_flying hs, hs] at hf; cases hf
  | none =>
    rw [takeIntoFlight_flight hp hs] at hf
    simpa using hf

@[simp] theorem starvedTest_queue (s : State) : (starvedTest s).program.queue = s.program.queue :=
  (starvedTest_keeps s).queue

theorem starvedTest_of_other {s : State} (h : s.posture ≠ .run) : starvedTest s = s := if_neg fun k => h k.1

theorem starvedTest_ordered {s : State} (h : Ordered s.posture s.program) :
    Ordered (starvedTest s).posture (starvedTest s).program := by
  by_cases hp : s.posture = .run
  · have k := starvedTest_keeps s
    exact h.congr (by rw [k.queue]) k.lastCompleted k.nextToAssign (by simp) (by simp) (by simp [hp])
  · rw [starvedTest_of_other hp]; exact h

theorem starvedTest_noneWaits {s : State} (h : NoneWaits s.posture s.program) :
    NoneWaits (starvedTest s).posture (starvedTest s).program := by
  simpa [NoneWaits] using h

@[simp] theorem markInterrupted_queue (p : Program) : (markInterrupted p).queue = p.queue := by
  unfold markInterrupted; split <;> rfl
@[simp] theorem markInterrupted_lastCompleted (p : Program) : (markInterrupted p).lastCompleted = p.lastCompleted := by
  unfold markInterrupted; split <;> rfl
@[simp] theorem markInterrupted_nextToAssign (p : Program) : (markInterrupted p).nextToAssign = p.nextToAssign := by
  unfold markInterrupted; split <;> rfl

/-- The mark of an interrupted cycle is the generator's (R40). -/
@[simp] theorem markInterrupted_flight (p : Program) : (markInterrupted p).flight = p.flight.map interrupted := by
  unfold markInterrupted
  split
  next hf => simp [hf, interrupted]
  next hn =>
    cases hf : p.flight with
    | none => rfl
    | some w =>
      have unmarked : interrupted w = w := by
        unfold interrupted
        split
        next i => exact absurd hf (hn _ _ i)
        · rfl
      rw [Option.map_some, unmarked]

theorem markInterrupted_eq (p : Program) : markInterrupted p = { p with flight := p.flight.map interrupted } := by
  rw [← markInterrupted_flight]
  unfold markInterrupted
  split <;> rfl

/-- A posture change out of RUN as `outOfRun` writes it (R40, R43, R44). -/
theorem pauseProgram_eq (p : Program) :
    pauseProgram p = { p with paced := false, starved := false, flight := p.flight.map interrupted } := by
  rw [pauseProgram, markInterrupted_eq]

theorem changePosture_ordered {p : Posture} (k : Option Cause) (o : Option UnloadOutcome) {s : State}
    (hp : p = .idle → s.posture = .idle) (h : Ordered s.posture s.program) :
    Ordered (changePosture p k o s).posture (changePosture p k o s).program := by
  rw [changePosture_posture, changePosture_program]
  split
  · rw [pauseProgram_eq]
    exact h.congr rfl rfl rfl (by simp) hp fun _ => ⟨rfl, rfl⟩
  next hn =>
    refine h.congr rfl rfl rfl id hp fun hr => h.flags fun hs => hn ⟨hs, hr⟩

theorem enterRun_ordered (k : Option Cause) {s : State} (h : Ordered s.posture s.program) :
    Ordered (enterRun k s).posture (enterRun k s).program :=
  starvedTest_ordered (takeIntoFlight_ordered (s := dropDemand (changePosture .run k none s))
    (changePosture_ordered k none (by simp) h))

theorem enterRun_noneWaits (k : Option Cause) (s : State) :
    NoneWaits (enterRun k s).posture (enterRun k s).program :=
  starvedTest_noneWaits (takeIntoFlight_noneWaits _)

/-- Of the pieces only an entry into RUN could let a segment wait, and it takes the head into flight (R34). -/
theorem Piece.ordered {b : Bool} {s t : State} (p : Piece b s t) (h : Ordered s.posture s.program) :
    Ordered t.posture t.program := by
  cases p with
  | still k => rw [k.posture, k.program]; exact h
  | leaves p k o hi _ => exact changePosture_ordered k o (fun e => absurd e hi) h
  | runs k => exact enterRun_ordered k h
  | notice _ => exact h
  | holdNotice _ => exact h
  | unloadNotice _ => exact h
  | emptied => exact h
  | breaks _ => rw [askBreak_posture, askBreak_program]; exact h

theorem Piece.noneWaits {b : Bool} {s t : State} (p : Piece b s t) (h : NoneWaits s.posture s.program) :
    NoneWaits t.posture t.program := by
  cases p with
  | still k => rw [k.posture, k.program]; exact h
  | leaves p k o _ hr =>
    rw [changePosture_posture, changePosture_program]
    intro hp hf
    have from_run := hr hp
    have waits := h (.inl from_run)
    split at hf
    · rw [pauseProgram_eq] at hf
      simpa [pauseProgram_eq, from_run, *] using waits (by simpa using hf)
    next hn => rw [if_neg hn]; exact waits hf
  | runs k => exact enterRun_noneWaits k s
  | notice _ => exact h
  | holdNotice _ => exact h
  | unloadNotice _ => exact h
  | emptied => exact h
  | breaks _ => rw [askBreak_posture, askBreak_program]; exact h

/-! ### The notice queue (R190) -/

/-- The law of the notice queue over its entries. -/
def NoticesFit (q : List NoticeEntry) : Prop := q.length ≤ 32 ∧ (q.length = 32 → q.getLast?.map isOverflow = some true)

theorem bumpOverflow_last {q : List NoticeEntry} (h : q.getLast?.map isOverflow = some true) :
    (bumpOverflow q).getLast?.map isOverflow = some true := by
  unfold bumpOverflow
  split
  · simp [isOverflow]
  · exact h

/-- A notice handed over takes no place but one of the 32, the last only as OVERFLOW (R190). -/
theorem queueNotice_fits (t : BitVec 32) (n : Notice) {q : List NoticeEntry} (h : NoticesFit q) :
    NoticesFit (queueNotice t n q) := by
  obtain ⟨hlen, e⟩ | ⟨hlen, e⟩ | ⟨hlen, e⟩ := queueNotice_cases t n q <;> rw [e]
  · exact ⟨by simp; omega, fun k => by simp at k; omega⟩
  · exact ⟨by simp [hlen], fun _ => by simp [isOverflow]⟩
  · have full : q.length = 32 := Nat.le_antisymm h.1 hlen
    exact ⟨by rw [bumpOverflow_length]; exact h.1, fun _ => bumpOverflow_last (h.2 full)⟩

/-- A piece hands over notices alone. -/
theorem Piece.notices {b : Bool} {s t : State} (p : Piece b s t) {P : List NoticeEntry → Prop}
    (hP : ∀ time n q, P q → P (queueNotice time n q)) (h : P s.link.notices) : P t.link.notices := by
  cases p with
  | still k => rw [k.notices]; exact h
  | notice n => exact hP _ _ _ h
  | leaves _ _ _ _ _ => exact hP _ _ _ h
  | runs k =>
    have entered : P (takeIntoFlight (dropDemand (changePosture .run k none s))).link.notices := by
      rw [takeIntoFlight_link]; exact hP _ _ _ h
    unfold enterRun starvedTest
    split
    · exact hP _ _ _ entered
    · exact entered
  | holdNotice _ => exact h
  | unloadNotice _ => exact h
  | emptied => exact h
  | breaks _ => rw [askBreak_link]; exact h

/-- What every notice handed over keeps, the posture controller's work keeps. -/
theorem Pieces.notices {b : Bool} {s t : State} (m : Pieces b s t) {P : List NoticeEntry → Prop}
    (hP : ∀ time n q, P q → P (queueNotice time n q)) (h : P s.link.notices) : P t.link.notices := by
  induction m with
  | refl => exact h
  | tail _ p ih => exact p.notices hP ih

/-! ### The hit FIFO (R175) -/

theorem Piece.hits {b : Bool} {s t : State} (p : Piece b s t) :
    t.crack.fifo = s.crack.fifo ∧ t.crack.gap = s.crack.gap := by
  cases p with
  | still k => exact ⟨k.fifo, k.gap⟩
  | runs k => rw [enterRun_crack]; exact ⟨rfl, rfl⟩
  | breaks _ => rw [askBreak_eq]; exact ⟨rfl, rfl⟩
  | _ => exact ⟨rfl, rfl⟩

end Sys2Proof.LoadProgram

/-! ## The law of the hall line (R78, R86), operation by operation -/

namespace Sys2Proof.LoadProgram

open Sys2Proof Sys2Proof.Machine Sys2Proof.Laws Sys2Proof.Safety Sys2Proof.Claims Sys2Proof.Postures

/-- The counts a slot shows. -/
def shown (l : Line) : SlotName → Option SlotCounts
  | .unload => l.unloadSlot.pending.map Prod.snd
  | .hold => l.holdSlot.pending.map Prod.snd
  | .report => l.reportSlot

/-- The law of the hall line over the line alone (R86). -/
structure CountsFit (l : Line) : Prop where
  flight : ∀ f ∈ flightOf l, flyingCounts f.counts
  slots : ∀ n, slotCountsLaw (l.inFlight n) (shown l n)

theorem lineLaw_iff (s : State) : lineLaw s ↔ CountsFit s.line :=
  ⟨fun ⟨flight, unload, hold, report⟩ => ⟨flight, fun n => by cases n; exacts [unload, hold, report]⟩,
    fun ⟨flight, slots⟩ => ⟨flight, slots .unload, slots .hold, slots .report⟩⟩

theorem inFlight_iff (l : Line) (n : SlotName) : l.inFlight n = true ↔ ∃ f, flightOf l = some f ∧ f.slot = n := by
  unfold Line.inFlight flightOf
  split <;> simp_all

/-- The frame in flight is the same, the bit time it has reached aside. -/
def SameFlight (l m : Line) : Prop :=
  (flightOf m).map (fun f => (f.slot, f.counts)) = (flightOf l).map fun f => (f.slot, f.counts)

theorem SameFlight.of_tx {l m : Line} (h : m.tx = l.tx) : SameFlight l m := by
  unfold SameFlight flightOf; rw [h]

theorem SameFlight.flies {l m : Line} (h : SameFlight l m) {f : Flight} (hf : flightOf m = some f) :
    ∃ g, flightOf l = some g ∧ g.slot = f.slot ∧ g.counts = f.counts := by
  have h : (flightOf m).map (fun f => (f.slot, f.counts)) = (flightOf l).map fun f => (f.slot, f.counts) := h
  rw [hf, Option.map_some, eq_comm, Option.map_eq_some_iff] at h
  obtain ⟨g, hg, e⟩ := h
  exact ⟨g, hg, congrArg Prod.fst e, congrArg Prod.snd e⟩

theorem SameFlight.inFlight {l m : Line} (h : SameFlight l m) (n : SlotName) : m.inFlight n = l.inFlight n := by
  have back : SameFlight m l := Eq.symm h
  rw [Bool.eq_iff_iff, inFlight_iff, inFlight_iff]
  constructor
  · rintro ⟨f, hf, rfl⟩
    obtain ⟨g, hg, e, -⟩ := h.flies hf
    exact ⟨g, hg, e⟩
  · rintro ⟨f, hf, rfl⟩
    obtain ⟨g, hg, e, -⟩ := back.flies hf
    exact ⟨g, hg, e⟩

/-- A slot that is emptied, filled anew or left as it is keeps the law while the same frame flies. -/
theorem CountsFit.congr {l m : Line} (h : CountsFit l) (flight : SameFlight l m)
    (slots : ∀ n, ∀ c ∈ shown m n, c ∈ shown l n ∨ c = {}) : CountsFit m where
  flight _ hf := by
    obtain ⟨g, hg, -, e⟩ := flight.flies hf
    exact e ▸ h.flight g hg
  slots n c hc := by
    rw [flight.inFlight]
    obtain kept | rfl := slots n c hc
    · exact h.slots n c kept
    · cases l.inFlight n with
      | true => exact .inr rfl
      | false => exact ⟨by simp, by simp⟩

theorem shown_congr {l m : Line} (h : SameTraffic l m) (n : SlotName) : shown m n = shown l n := by
  cases n
  · exact congrArg (fun x => x.pending.map Prod.snd) h.unloadSlot
  · exact congrArg (fun x => x.pending.map Prod.snd) h.holdSlot
  · exact h.reportSlot

theorem SameTraffic.countsFit {l m : Line} (k : SameTraffic l m) (h : CountsFit l) : CountsFit m :=
  h.congr (.of_tx k.tx) fun n _ hc => .inl (shown_congr k n ▸ hc)

theorem flightOf_settleTx (id : Nat) (l : Line) : flightOf (settleTx id l) = flightOf l := by
  have rests : flightOf { l with tx := restTx id l } = none := by
    unfold flightOf restTx
    simp only
    split
    next h => split at h <;> cases h
    · rfl
  unfold settleTx
  split
  next h => rw [rests]; simp [flightOf, h]
  next h => rw [rests]; simp [flightOf, h]
  · rfl

theorem shown_settleTx (id : Nat) (l : Line) (n : SlotName) : shown (settleTx id l) n = shown l n := by
  rw [settleTx_eq]; cases n <;> rfl

/-- A line brought to rest where it neither sends, waits nor breaks keeps the law (R79). -/
theorem settleTx_countsFit (id : Nat) {l : Line} (h : CountsFit l) : CountsFit (settleTx id l) :=
  h.congr (by rw [SameFlight, flightOf_settleTx]) fun n c hc => .inl (shown_settleTx id l n ▸ hc)

theorem fillNotice_shown {flying : Bool} {content : NoticeContent} {slot : NoticeSlot} {c : SlotCounts}
    (h : c ∈ (fillNotice flying content slot).pending.map Prod.snd) :
    c ∈ slot.pending.map Prod.snd ∨ c = {} := by
  unfold fillNotice at h
  split at h
  · exact .inl h
  · right; simpa using h.symm

theorem placeUnloadNotice_countsFit (content : NoticeContent) {s : State} (h : CountsFit s.line) :
    CountsFit (placeUnloadNotice content s).line :=
  settleTx_countsFit _ (h.congr (.of_tx rfl) fun n c hc => by
    cases n
    · exact fillNotice_shown hc
    · exact .inl hc
    · exact .inl hc)

theorem placeHoldNotice_countsFit (content : NoticeContent) {s : State} (h : CountsFit s.line) :
    CountsFit (placeHoldNotice content s).line :=
  settleTx_countsFit _ (h.congr (.of_tx rfl) fun n c hc => by
    cases n
    · exact .inl hc
    · exact fillNotice_shown hc
    · exact .inl hc)

theorem emptyHoldSlot_countsFit {s : State} (h : CountsFit s.line) : CountsFit (emptyHoldSlot s).line :=
  settleTx_countsFit _ (h.congr (.of_tx rfl) fun n c hc => by
    cases n
    · exact .inl hc
    · cases hc
    · exact .inl hc)

theorem fillReport_countsFit {s : State} (h : CountsFit s.line) : CountsFit (fillReport s).line := by
  unfold fillReport
  split
  · exact h
  · refine settleTx_countsFit _ (h.congr (.of_tx rfl) fun n c hc => ?_)
    cases n
    · exact .inl hc
    · exact .inl hc
    · cases hr : s.line.reportSlot with
      | none => right; simpa [shown, hr] using hc.symm
      | some k => left; simpa [shown, hr] using hc

/-! ### The ends of an attempt (R82 to R86, R88) -/

/-- Every slot shows the counts of a frame that may be attempted again. -/
def SlotsRest (l : Line) : Prop := ∀ n, ∀ c ∈ shown l n, restingCounts c

/-- With no frame in flight the law is that of the slots at rest. -/
theorem countsFit_of_rest {l : Line} (hf : flightOf l = none) (h : SlotsRest l) : CountsFit l where
  flight f k := by rw [hf] at k; cases k
  slots n c hc := by
    have grounded : l.inFlight n = false := by
      rw [← Bool.not_eq_true, inFlight_iff, hf]; simp
    rw [grounded]
    exact h n c hc

theorem CountsFit.slotsRest {l : Line} (h : CountsFit l) (hf : flightOf l = none) : SlotsRest l := fun n c hc => by
  have grounded : l.inFlight n = false := by rw [← Bool.not_eq_true, inFlight_iff, hf]; simp
  simpa [grounded] using h.slots n c hc

theorem SlotsRest.congr {l m : Line} (h : SlotsRest l) (k : ∀ n, shown m n = shown l n) : SlotsRest m :=
  fun n c hc => h n c (k n ▸ hc)

theorem shown_endAttempt_other {n m : SlotName} (h : n ≠ m) (keep : Option SlotCounts) (l : Line) :
    shown (endAttempt m keep l) n = shown l n := by
  cases m <;> cases n <;> simp [shown, endAttempt] at h ⊢

theorem slotAfterAttempt_shown {keep : Option SlotCounts} {slot : NoticeSlot} {c : SlotCounts}
    (h : c ∈ (slotAfterAttempt keep slot).pending.map Prod.snd) : c ∈ keep ∨ c = {} := by
  unfold slotAfterAttempt at h
  split at h
  · right; simpa using h.symm
  · split at h
    · cases h
    · left
      simp only [Option.map_map, Option.mem_def, Option.map_eq_some_iff, Function.comp_apply] at h
      obtain ⟨_, -, rfl⟩ := h
      rfl

/-- An attempt that ends leaves its slot empty, with the counts to keep, or filled anew (R80, R82, R83; log 18). -/
theorem endAttempt_slotsRest {l : Line} {f : Flight} {keep : Option SlotCounts} (h : CountsFit l)
    (hf : flightOf l = some f) (hk : ∀ k ∈ keep, restingCounts k) : SlotsRest (endAttempt f.slot keep l) := by
  have others : ∀ n, n ≠ f.slot → ∀ c ∈ shown l n, restingCounts c := fun n hn c hc => by
    have grounded : l.inFlight n = false := by
      rw [← Bool.not_eq_true, inFlight_iff, hf]
      rintro ⟨g, e, rfl⟩
      cases e
      exact hn rfl
    simpa [grounded] using h.slots n c hc
  have fresh : restingCounts {} := ⟨by simp, by simp⟩
  have ended : ∀ c slot, c ∈ (slotAfterAttempt keep slot).pending.map Prod.snd → restingCounts c := fun c slot hc =>
    (slotAfterAttempt_shown hc).elim (hk c) fun e => e ▸ fresh
  intro n c hc
  by_cases hn : n = f.slot
  swap
  · exact others n hn c (shown_endAttempt_other hn keep l ▸ hc)
  subst hn
  cases hs : f.slot <;> rw [hs] at hc
  case unload => exact ended c _ hc
  case hold => exact ended c _ hc
  case report =>
    have flying : l.inFlight .report = true := (inFlight_iff _ _).mpr ⟨f, hf, hs⟩
    have own := h.slots .report
    simp only [endAttempt, shown, reportAfterAttempt] at hc
    split at hc
    next counts hr =>
      split at hc
      next h0 =>
        cases hc
        have := own _ hr
        rw [flying, if_pos rfl] at this
        obtain ⟨-, bad⟩ | rfl := this
        · omega
        · exact fresh
      · exact hk c hc
    · cases hc

theorem flightOf_sending {l : Line} {f : Flight} (h : l.tx = .sending f) : flightOf l = some f := by
  simp [flightOf, h]

theorem flightOf_none {l : Line} (h : ∀ f, l.tx ≠ .sending f) : flightOf l = none := by
  unfold flightOf
  split
  next e => exact absurd e (h _)
  · rfl

/-- A break that abandons an attempt leaves every slot at rest (R86, R88). -/
theorem abandonAttempt_slotsRest {l : Line} {f : Flight} (h : CountsFit l) (hf : flightOf l = some f) :
    SlotsRest (abandonAttempt f l) := by
  have emptied := endAttempt_slotsRest (keep := none) h hf fun k hk => by cases hk
  obtain ⟨most, fewer⟩ := h.flight f hf
  unfold abandonAttempt
  split
  next hs => rw [hs] at emptied; exact emptied
  · split
    · exact emptied.congr fun n => by cases n <;> rfl
    next hlt =>
      refine endAttempt_slotsRest h hf fun k hk => ?_
      cases hk
      exact ⟨by simp only [Config.maxAttempts] at hlt; omega, by omega⟩

theorem startBreak_countsFit {l : Line} (h : CountsFit l) : CountsFit (startBreak l) := by
  unfold startBreak
  split
  · exact h
  next f hf =>
    exact countsFit_of_rest rfl ((abandonAttempt_slotsRest h (flightOf_sending hf)).congr fun n => by cases n <;> rfl)
  next hn =>
    exact countsFit_of_rest rfl ((h.slotsRest (flightOf_none fun f e => hn f e)).congr fun n => by cases n <;> rfl)

theorem askBreak_countsFit {s : State} (h : CountsFit s.line) : CountsFit (askBreak s).line := by
  unfold askBreak
  split
  · exact h
  · exact startBreak_countsFit h

theorem Piece.countsFit {b : Bool} {s t : State} (p : Piece b s t) (h : CountsFit s.line) : CountsFit t.line := by
  cases p with
  | still k => exact k.traffic.countsFit h
  | notice _ => exact h
  | leaves _ _ _ _ _ => exact h
  | runs k => rw [enterRun_line]; exact SameTraffic.countsFit (l := s.line) ⟨rfl, rfl, rfl, rfl⟩ h
  | holdNotice n => exact placeHoldNotice_countsFit n h
  | unloadNotice n => exact placeUnloadNotice_countsFit n h
  | emptied => exact emptyHoldSlot_countsFit h
  | breaks _ => exact askBreak_countsFit h

end Sys2Proof.LoadProgram

/-! ## What keeps all four laws -/

namespace Sys2Proof.LoadProgram

open Sys2Proof Sys2Proof.Machine Sys2Proof.Laws Sys2Proof.Safety Sys2Proof.Claims Sys2Proof.Postures

/-- Work that keeps each of the four laws, the segment queue's in its two parts. -/
structure QueuesKept (s t : State) : Prop where
  ordered : Ordered s.posture s.program → Ordered t.posture t.program
  waits : NoneWaits s.posture s.program → NoneWaits t.posture t.program
  notices : NoticesFit s.link.notices → NoticesFit t.link.notices
  hits : hitLaw s → hitLaw t
  line : CountsFit s.line → CountsFit t.line

namespace QueuesKept

theorem refl (s : State) : QueuesKept s s := ⟨id, id, id, id, id⟩

theorem trans {s t u : State} (h : QueuesKept s t) (k : QueuesKept t u) : QueuesKept s u :=
  ⟨k.ordered ∘ h.ordered, k.waits ∘ h.waits, k.notices ∘ h.notices, k.hits ∘ h.hits, k.line ∘ h.line⟩

theorem of_piece {b : Bool} {s t : State} (p : Piece b s t) : QueuesKept s t where
  ordered := p.ordered
  waits := p.noneWaits
  notices := p.notices fun time n _ => queueNotice_fits time n
  hits h := by rw [hitLaw, p.hits.1, p.hits.2]; exact h
  line := p.countsFit

theorem of_pieces {b : Bool} {s t : State} (m : Pieces b s t) : QueuesKept s t := by
  induction m with
  | refl => exact refl s
  | tail _ p ih => exact ih.trans (of_piece p)

theorem of_still {s t : State} (h : Still s t) : QueuesKept s t := of_piece (b := false) (.still h)

theorem strain (u : Strain) (s : State) : QueuesKept s { s with strain := u } := of_still { Still.refl s with }
theorem peers (u : Peers) (s : State) : QueuesKept s { s with peers := u } := of_still { Still.refl s with }
theorem servo (v : Servo) (s : State) : QueuesKept s { s with servo := v } := of_still { Still.refl s with }
theorem timers (k : Timers) (s : State) : QueuesKept s { s with timers := k } := of_still { Still.refl s with }
theorem settings (st : Settings) (s : State) : QueuesKept s { s with settings := st } := of_still { Still.refl s with }

/-- Work on the line alone that keeps the line's law. -/
theorem of_line {l : Line} {s : State} (h : CountsFit s.line → CountsFit l) : QueuesKept s { s with line := l } :=
  ⟨id, id, id, id, h⟩

theorem of_traffic {l : Line} {s : State} (h : SameTraffic s.line l) : QueuesKept s { s with line := l } :=
  of_line h.countsFit

/-- Work on the crack unit that leaves the hit FIFO as it is. -/
theorem of_crack {u : Crack} {s : State} (hf : u.fifo = s.crack.fifo) (hg : u.gap = s.crack.gap) :
    QueuesKept s { s with crack := u } := of_still { Still.refl s with fifo := hf, gap := hg }

/-- Work on the link that leaves the notice queue as it is. -/
theorem of_link {k : Link} {s : State} (h : k.notices = s.link.notices) : QueuesKept s { s with link := k } :=
  of_still { Still.refl s with notices := h }

/-- Work on the program unit that keeps the numbers of the queue, what flies, and the flags in RUN. -/
theorem of_program {p : Program} {s : State}
    (seqs : p.queue.map (fun g => g.seq) = s.program.queue.map (fun g => g.seq))
    (last : p.lastCompleted = s.program.lastCompleted) (next : p.nextToAssign = s.program.nextToAssign)
    (flies : p.flight.isSome = s.program.flight.isSome)
    (flags : s.posture ≠ .run → s.program.paced = false ∧ s.program.starved = false →
      p.paced = false ∧ p.starved = false) : QueuesKept s { s with program := p } where
  ordered h := h.congr seqs last next (fun k => flies ▸ k) id fun hp => flags hp (h.flags hp)
  waits h hp hf := by
    have empty := h hp (by rw [hf] at flies; exact Option.isNone_iff_eq_none.mp (by simpa using flies.symm))
    exact List.map_eq_nil_iff.mp (by rw [seqs, empty]; rfl)
  notices := id
  hits := id
  line := id

end QueuesKept

open QueuesKept

theorem pushNotice_kept (n : Notice) (s : State) : QueuesKept s (pushNotice n s) :=
  .of_piece (b := false) (.notice n)

/-- Work repeated over a list. -/
theorem foldl_kept {α : Type} {f : State → α → State} (h : ∀ s x, QueuesKept s (f s x)) (xs : List α) (s : State) :
    QueuesKept s (xs.foldl f s) := by
  induction xs generalizing s with
  | nil => exact .refl s
  | cons x xs ih => exact (h s x).trans (ih _)

theorem pushNotices_kept (ns : List Notice) (s : State) : QueuesKept s (pushNotices ns s) :=
  foldl_kept (fun s n => pushNotice_kept n s) ns s

theorem reportWith_kept (exit : Bool) (c : Cause) (v : Bool) (s : State) : QueuesKept s (reportWith exit c v s) :=
  .of_pieces (reportWith_pieces exit c v s)

theorem report_kept (c : Cause) (v : Bool) (s : State) : QueuesKept s (report c v s) := reportWith_kept true c v s

theorem pulse_kept (c : Cause) (s : State) : QueuesKept s (pulse c s) :=
  (report_kept c true s).trans (report_kept c false _)

theorem takeIntoFlight_kept (s : State) : QueuesKept s (takeIntoFlight s) where
  ordered := takeIntoFlight_ordered
  waits _ := takeIntoFlight_noneWaits s
  notices := by rw [takeIntoFlight_link]; exact id
  hits := by rw [takeIntoFlight_eq]; exact id
  line := by rw [takeIntoFlight_line]; exact id

theorem starvedTest_kept (s : State) : QueuesKept s (starvedTest s) where
  ordered := starvedTest_ordered
  waits := starvedTest_noneWaits
  notices h := by
    unfold starvedTest
    split
    · exact queueNotice_fits _ _ h
    · exact h
  hits := by unfold starvedTest; split <;> exact id
  line := by rw [starvedTest_line]; exact id

/-! ### The peers (R95 to R108, R117, R118) -/

theorem setPeers_kept (es : List Peer) (s : State) : QueuesKept s (setPeers es s) := .peers _ s

theorem evalPeers_kept (s : State) : QueuesKept s (evalPeers s) :=
  ((report_kept _ _ s).trans (report_kept _ _ _)).trans (report_kept _ _ _)

theorem removePeers_kept (why : ForgetReason) (gone : Peer → Bool) (s : State) :
    QueuesKept s (removePeers why gone s) :=
  ((setPeers_kept _ s).trans (pushNotices_kept _ _)).trans (evalPeers_kept _)

/-- The pacing evaluation leaves RUN's program its queue (R118). -/
theorem evalPacing_kept (s : State) : QueuesKept s (evalPacing s) := by
  unfold evalPacing
  split
  next hp =>
    refine .of_program ?_ ?_ ?_ ?_ fun h => absurd hp h
    all_goals dsimp only; split <;> simp
  · exact .refl s

theorem pacingAfterReport_kept (g : Nat) (s : State) : QueuesKept s (pacingAfterReport g s) := by
  unfold pacingAfterReport
  split
  · exact evalPacing_kept s
  · exact .refl s

theorem takeNewcomer_kept (id : Nat) (r : ReportFields) (s : State) : QueuesKept s (takeNewcomer id r s) := by
  unfold takeNewcomer
  split
  · exact (((setPeers_kept _ s).trans (pushNotice_kept _ _)).trans (evalPeers_kept _)).trans
      (pacingAfterReport_kept _ _)
  · simp only
    split
    · exact .peers _ s
    · exact (QueuesKept.peers _ s).trans (pushNotice_kept _ _)

theorem takeKnownReport_kept (e : Peer) (r : ReportFields) (s : State) : QueuesKept s (takeKnownReport e r s) := by
  unfold takeKnownReport
  split
  · exact setPeers_kept _ s
  · exact (((setPeers_kept _ s).trans (pushNotices_kept _ _)).trans (evalPeers_kept _)).trans
      (pacingAfterReport_kept _ _)

theorem applyNotice_kept (before after : Peer) (s : State) : QueuesKept s (applyNotice before after s) :=
  ((setPeers_kept _ s).trans (pushNotices_kept _ _)).trans (evalPeers_kept _)

theorem takePeerFrame_kept (f : Frame) (s : State) : QueuesKept s (takePeerFrame f s) := by
  unfold takePeerFrame
  split
  · exact takeKnownReport_kept _ _ s
  · split
    · exact takeNewcomer_kept _ _ s
    · exact .refl s
  · split
    · exact applyNotice_kept _ _ s
    · exact .refl s
  · split
    · exact applyNotice_kept _ _ s
    · exact .refl s
  · exact .refl s
  · exact .refl s

/-! ### The hall line (R74 to R90) -/

theorem told_traffic (space carrier : Bool) (l : Line) : SameTraffic l (l.told space carrier) := by
  unfold Line.told
  split
  · exact .refl l
  · exact ⟨rfl, rfl, rfl, rfl⟩

theorem returnToMark_traffic (l : Line) : SameTraffic l (returnToMark l) :=
  { told_traffic false false l with }

theorem lineAfterChars_traffic (chars : List Byte) (stop : StopBit) (noisy : Bool) (l : Line) :
    SameTraffic l (lineAfterChars chars stop noisy l) := by
  unfold lineAfterChars
  simp only
  split
  · exact { SameTraffic.refl l with }
  · exact { told_traffic _ _ { l with noise := l.noise || noisy, taking := none } with }

theorem firstPending_shown {l : Line} {n : SlotName} (h : firstPending l = some n) : ∃ c, shown l n = some c := by
  unfold firstPending at h
  split at h
  next h0 => cases h; obtain ⟨x, hx⟩ := Option.isSome_iff_exists.mp h0; exact ⟨x.2, by simp [shown, hx]⟩
  · split at h
    next h0 => cases h; obtain ⟨x, hx⟩ := Option.isSome_iff_exists.mp h0; exact ⟨x.2, by simp [shown, hx]⟩
    · split at h
      next h0 => cases h; exact Option.isSome_iff_exists.mp h0
      · cases h

theorem slotCounts_eq_shown (l : Line) (n : SlotName) : slotCounts l n = (shown l n).getD {} := by
  cases n <;> rfl

theorem shown_setSlotCounts (n m : SlotName) (k : SlotCounts) (l : Line) :
    shown (setSlotCounts n k l) m = if m = n then (shown l m).map (fun _ => k) else shown l m := by
  cases n <;> cases m <;> simp [shown, setSlotCounts, Function.comp_def]

/-- An attempt counts itself in its slot and in the frame in flight (R81, R86). -/
theorem startAttempt_countsFit {s : State} (h : CountsFit s.line) : CountsFit (startAttempt s).line := by
  unfold startAttempt
  split
  next n htx hn =>
    have rest : SlotsRest (returnToMark s.line) :=
      (h.slotsRest (flightOf_none (by simp [htx]))).congr (shown_congr (returnToMark_traffic _))
    obtain ⟨c, hc⟩ := firstPending_shown hn
    have rested : restingCounts c := rest n c (by rw [shown_congr (returnToMark_traffic _)]; exact hc)
    have counts : slotCounts s.line n = c := by rw [slotCounts_eq_shown, hc]; rfl
    have flies : flyingCounts { c with attempts := c.attempts + 1 } :=
      ⟨by simp; omega, by simp; omega⟩
    simp only [counts]
    refine ⟨fun f hf => by cases hf; exact flies, fun m k hk => ?_⟩
    have hk : k ∈ shown (setSlotCounts n { c with attempts := c.attempts + 1 } (returnToMark s.line)) m := by
      cases m <;> exact hk
    rw [shown_setSlotCounts] at hk
    by_cases hm : m = n
    · subst hm
      rw [if_pos rfl] at hk
      obtain ⟨_, -, rfl⟩ := Option.map_eq_some_iff.mp hk
      simpa [Line.inFlight, setLine] using flies
    · rw [if_neg hm] at hk
      simpa [Line.inFlight, setLine, Ne.symm hm] using rest m k hk
  · exact h

theorem SlotsRest.of_slots {l m : Line} (h : SlotsRest l) (hu : m.unloadSlot = l.unloadSlot)
    (hh : m.holdSlot = l.holdSlot) (hr : m.reportSlot = l.reportSlot) : SlotsRest m :=
  h.congr fun n => by
    cases n
    · exact congrArg (fun x => x.pending.map Prod.snd) hu
    · exact congrArg (fun x => x.pending.map Prod.snd) hh
    · exact hr

theorem releaseToRest_countsFit (id : Nat) {l : Line} (h : SlotsRest l) : CountsFit (releaseToRest id l) := by
  refine countsFit_of_rest (flightOf_none fun f => ?_) (h.congr fun n => by cases n <;> rfl)
  simp only [releaseToRest, restTx]
  split <;> simp

theorem SlotsRest.drawn {l : Line} (h : SlotsRest l) (g : BitVec 16) : SlotsRest { l with generator := g } :=
  h.of_slots rfl rfl rfl

theorem SlotsRest.waits {l : Line} (h : SlotsRest l) (wait : Nat) :
    CountsFit { releaseDriver l with tx := .backoff, wait := wait } :=
  countsFit_of_rest rfl (h.of_slots rfl rfl rfl)

/-- The attempt in flight ends with its frame out of the slot (R82, R83, R86). -/
theorem endAttempt_none_slotsRest {l : Line} {f : Flight} (h : CountsFit l) (hf : flightOf l = some f) :
    SlotsRest (endAttempt f.slot none l) := endAttempt_slotsRest h hf fun _ k => by cases k

theorem finishAttempt_countsFit {s : State} (h : CountsFit s.line) : CountsFit (finishAttempt s).line := by
  unfold finishAttempt
  split
  next f hf => exact releaseToRest_countsFit _ (endAttempt_none_slotsRest h (flightOf_sending hf))
  · exact h

theorem backOff_countsFit {f : Flight} {s : State} (h : CountsFit s.line) (hf : flightOf s.line = some f)
    (few : f.counts.attempts < 16) : CountsFit (backOff f s).line := by
  obtain ⟨-, fewer⟩ := h.flight f hf
  have ended := endAttempt_slotsRest (keep := some { f.counts with collisions := f.counts.collisions + 1 }) h hf
    fun k hk => by cases hk; exact ⟨by simp; omega, fewer⟩
  unfold backOff
  simp only
  split
  · exact releaseToRest_countsFit _ ended
  · split
    · exact releaseToRest_countsFit _ (ended.drawn _)
    · exact (ended.drawn _).waits _

theorem contend_countsFit (bit : Nat) {s : State} (h : CountsFit s.line) : CountsFit (contend bit s).line := by
  unfold contend
  split
  next f hf =>
    have traffic : SameTraffic s.line (hearContention s).line := told_traffic _ _ _
    have heard := traffic.countsFit h
    have flies : flightOf (hearContention s).line = some f := flightOf_sending (traffic.tx.trans hf)
    have ended := endAttempt_none_slotsRest heard flies
    simp only
    split
    · exact SameTraffic.countsFit (l := releaseToRest _ _) ⟨rfl, rfl, rfl, rfl⟩ (releaseToRest_countsFit _ ended)
    · split
      · exact SameTraffic.countsFit (l := releaseToRest _ _) ⟨rfl, rfl, rfl, rfl⟩ (releaseToRest_countsFit _ ended)
      next few => exact backOff_countsFit heard flies (by simpa [Config.maxAttempts] using few)
  · exact h

theorem endBackoff_countsFit {s : State} (h : CountsFit s.line) : CountsFit (endBackoff s).line := by
  unfold endBackoff
  split
  next htx =>
    refine countsFit_of_rest (flightOf_none fun f => ?_)
      ((h.slotsRest (flightOf_none (by simp [htx]))).congr fun n => by cases n <;> rfl)
    simp only [setLine, restTx]
    split <;> simp
  · exact SameTraffic.countsFit (l := s.line) ⟨rfl, rfl, rfl, rfl⟩ h
  · exact h

theorem endBreak_countsFit {s : State} (h : CountsFit s.line) : CountsFit (endBreak s).line := by
  unfold endBreak
  split
  next htx =>
    have rest := h.slotsRest (flightOf_none (by simp [htx]))
    split
    · exact releaseToRest_countsFit _ rest
    · exact countsFit_of_rest rfl (rest.congr fun n => by cases n <;> rfl)
  · exact h

/-- A change of the station id to 0 empties the slots (R87). -/
theorem silenceLine_countsFit {l : Line} (h : CountsFit l) : CountsFit (silenceLine l) :=
  h.congr (by unfold SameFlight flightOf silenceLine; cases l.tx <;> rfl) fun n _ hc => by cases n <;> cases hc

/-- A bit time only moves the frame in flight on (R70). -/
theorem tick_countsFit {l : Line} (h : CountsFit l) : CountsFit l.tick :=
  h.congr (by unfold SameFlight flightOf; rw [tick_tx]; cases l.tx <;> rfl) fun n _ hc => .inl (by
    cases n <;> simpa [shown] using hc)

end Sys2Proof.LoadProgram

/-! ## Every step keeps the four laws -/

namespace Sys2Proof.LoadProgram

open Sys2Proof Sys2Proof.Machine Sys2Proof.Laws Sys2Proof.Safety Sys2Proof.Claims Sys2Proof.Postures

/-! ### The hall line's events -/

/-- Work that changes the line alone and keeps the line's law. -/
theorem QueuesKept.of_lineOnly {s t : State} (h : t = { s with line := t.line })
    (fits : CountsFit s.line → CountsFit t.line) : QueuesKept s t := by
  rw [h]; exact .of_line fits

theorem setLine_kept {l : Line} {s : State} (h : SameTraffic s.line l) : QueuesKept s (setLine l s) := .of_traffic h

theorem startAttempt_kept (s : State) : QueuesKept s (startAttempt s) :=
  .of_lineOnly (by unfold startAttempt; split <;> rfl) startAttempt_countsFit

theorem finishAttempt_kept (s : State) : QueuesKept s (finishAttempt s) :=
  .of_lineOnly (by unfold finishAttempt; split <;> rfl) finishAttempt_countsFit

theorem backOff_line_only (f : Flight) (s : State) : backOff f s = { s with line := (backOff f s).line } := by
  unfold backOff
  simp only
  split
  · rfl
  · split <;> rfl

theorem contend_line_only (bit : Nat) (s : State) : contend bit s = { s with line := (contend bit s).line } := by
  unfold contend
  split
  next f _ =>
    simp only
    split
    · rfl
    · split
      · rfl
      · exact backOff_line_only f _
  · rfl

theorem contend_kept (bit : Nat) (s : State) : QueuesKept s (contend bit s) :=
  .of_lineOnly (contend_line_only bit s) (contend_countsFit bit)

theorem endBackoff_kept (s : State) : QueuesKept s (endBackoff s) :=
  .of_lineOnly (by unfold endBackoff; split <;> rfl) endBackoff_countsFit

theorem endBreak_kept (s : State) : QueuesKept s (endBreak s) := by
  refine .of_lineOnly ?_ endBreak_countsFit
  unfold endBreak
  split
  · split <;> rfl
  · rfl

theorem takeFrame_kept (bytes : List Byte) (s : State) : QueuesKept s (takeFrame bytes s) := by
  unfold takeFrame
  split
  · exact setLine_kept ⟨rfl, rfl, rfl, rfl⟩
  · exact setLine_kept ⟨rfl, rfl, rfl, rfl⟩
  · split
    · exact pulse_kept _ s
    · exact takePeerFrame_kept _ s

theorem takeChars_kept (chars : List Byte) (stop : StopBit) (s : State) : QueuesKept s (takeChars chars stop s) := by
  unfold takeChars
  split
  · exact setLine_kept ⟨rfl, rfl, rfl, rfl⟩
  · split
    · exact setLine_kept ⟨rfl, rfl, rfl, rfl⟩
    · split
      · split
        · exact takeFrame_kept _ s
        · exact setLine_kept ⟨rfl, rfl, rfl, rfl⟩
      · exact setLine_kept ⟨rfl, rfl, rfl, rfl⟩

theorem receiveChars_kept (chars : List Byte) (stop : StopBit) (noisy : Bool) (s : State) :
    QueuesKept s (receiveChars chars stop noisy s) := by
  have heard : QueuesKept s (setLine (lineAfterChars chars stop noisy s.line) s) :=
    setLine_kept (lineAfterChars_traffic chars stop noisy s.line)
  unfold receiveChars
  split
  · exact .refl s
  · simp only
    split
    · exact heard
    · exact heard.trans (takeChars_kept chars stop _)

theorem recogniseBreak_kept (s : State) : QueuesKept s (recogniseBreak s) := by
  unfold recogniseBreak
  split
  · exact .refl s
  · refine (setLine_kept ?_).trans (pulse_kept _ _)
    exact { told_traffic true true s.line with }

theorem resumeHunt_kept (s : State) : QueuesKept s (resumeHunt s) := by
  unfold resumeHunt
  split
  · exact .refl s
  · split
    · exact .refl s
    · exact setLine_kept { returnToMark_traffic s.line with }

theorem falseStarted_kept (noisy : Bool) (s : State) : QueuesKept s (falseStarted noisy s) := by
  unfold falseStarted
  split
  · exact .refl s
  · split
    · exact .refl s
    · exact setLine_kept ⟨rfl, rfl, rfl, rfl⟩

theorem markReturned_kept (s : State) : QueuesKept s (markReturned s) := by
  unfold markReturned
  split
  · exact .refl s
  · exact setLine_kept (returnToMark_traffic _)

/-! ### The strain unit and the crack unit -/

theorem evalDrift_kept (s : State) : QueuesKept s (evalDrift s) := report_kept _ _ s

theorem abandonZeroing_kept (i : Fin 32) (why : AbandonReason) (s : State) :
    QueuesKept s (abandonZeroing i why s) := by
  unfold abandonZeroing
  split
  · exact .refl s
  · exact (QueuesKept.strain _ s).trans (pushNotice_kept _ _)

theorem feedZeroing_kept (i : Fin 32) (r : Int) (s : State) : QueuesKept s (feedZeroing i r s) := by
  unfold feedZeroing
  split
  · exact .refl s
  next z _ =>
    split
    · exact .strain _ s
    · exact ((QueuesKept.strain _ s).trans (.settings _ _)).trans (pushNotice_kept _ _)

theorem feedDrift_kept (i : Fin 32) (v : Int) (s : State) : QueuesKept s (feedDrift i v s) := by
  unfold feedDrift
  split
  · exact .strain _ s
  · exact .refl s

theorem takeStrainSample_kept (i : Fin 32) (v : BitVec 24) (s : State) : QueuesKept s (takeStrainSample i v s) := by
  unfold takeStrainSample
  split
  · split
    · exact (((QueuesKept.strain _ s).trans (abandonZeroing_kept i .fault _)).trans (report_kept _ _ _)).trans
        (.strain _ _)
    · exact ((((QueuesKept.strain _ s).trans (report_kept _ _ _)).trans (.strain _ _)).trans
        (feedZeroing_kept i _ _)).trans (feedDrift_kept i _ _)
  · exact .refl s

theorem cycleBegin_kept (seq : BitVec 16) (watch : Bool) (s : State) : QueuesKept s (cycleBegin seq watch s) := by
  unfold cycleBegin
  split
  · exact (QueuesKept.strain _ s).trans (evalDrift_kept _)
  · exact .strain _ s

theorem cycleClose_kept (close : CycleClose) (watch : Bool) (s : State) : QueuesKept s (cycleClose close watch s) := by
  unfold cycleClose
  split
  · exact ((QueuesKept.strain _ s).trans (pushNotices_kept _ _)).trans (evalDrift_kept _)
  · exact .refl s

theorem evalCrack_kept (exit : Bool) (i : Fin 8) (s : State) : QueuesKept s (evalCrack exit i s) :=
  reportWith_kept _ _ _ s

theorem setCrackChannel_kept (i : Fin 8) (c : CrackChannel) (s : State) : QueuesKept s (setCrackChannel i c s) :=
  .of_crack rfl rfl

theorem setDetector_kept (i : Fin 8) (d : Detector) (s : State) : QueuesKept s (setDetector i d s) :=
  setCrackChannel_kept i _ s

/-- A hit is stored while fewer than 64 wait, and otherwise counted in the gap up to 255 (R175). -/
theorem storeHit_kept (i : Fin 8) (h : Hit) (felicity truncated : Bool) (s : State) :
    QueuesKept s (storeHit i h felicity truncated s) := by
  unfold storeHit
  split
  next room =>
    have stored : QueuesKept s { s with crack :=
        { s.crack with fifo := s.crack.fifo ++ [hitRecord i h felicity truncated s.crack.gap], gap := 0 } } :=
      { QueuesKept.refl s with hits := fun _ => ⟨by simpa [Config.hitPlaces] using Nat.succ_le_of_lt room, by simp⟩ }
    simp only
    split
    · exact stored.trans (pushNotice_kept _ _)
    · exact stored
  · exact { QueuesKept.refl s with hits := fun h => ⟨h.1, Nat.min_le_right _ _⟩ }

theorem finishHit_kept (i : Fin 8) (h : Hit) (truncated : Bool) (s : State) :
    QueuesKept s (finishHit i h truncated s) := by
  unfold finishHit
  extract_lets
  exact ((((setCrackChannel_kept i _ s).trans (storeHit_kept i h _ truncated _)).trans
    (setCrackChannel_kept i _ _)).trans (pushNotices_kept _ _)).trans (evalCrack_kept true i _)

theorem stepHit_kept (i : Fin 8) (amp : Nat) (h : Hit) (s : State) : QueuesKept s (stepHit i amp h s) := by
  unfold stepHit
  simp only
  split
  · exact setDetector_kept i _ s
  · exact (setDetector_kept i _ s).trans (finishHit_kept i _ _ _)

theorem faultSensor_kept (i : Fin 8) (s : State) : QueuesKept s (faultSensor i s) := by
  unfold faultSensor
  split
  · exact .refl s
  · exact .refl s
  all_goals exact (setDetector_kept i _ s).trans (pushNotice_kept _ _)

theorem takeEnvelope_kept (i : Fin 8) (v : Byte) (s : State) : QueuesKept s (takeEnvelope i v s) := by
  unfold takeEnvelope
  split
  · split
    · exact faultSensor_kept i s
    · split
      · exact .refl s
      · split
        · exact setDetector_kept i _ s
        · exact .refl s
      · exact stepHit_kept i _ _ s
      · exact setDetector_kept i _ s
      · exact .refl s
  · exact .refl s

theorem closeRateWindow_kept (s : State) : QueuesKept s (closeRateWindow s) :=
  foldl_kept (fun s i => (setCrackChannel_kept i _ s).trans (evalCrack_kept true i _)) _ s

/-! ### The program unit -/

/-- What a segment's step needs of the station: the segment is the head of the queue, and it is in flight (R35). -/
structure HeadFlies (seg : Segment) (p : Program) : Prop where
  heads : p.queue.head? = some seg
  flies : p.flight.isSome = true

theorem HeadFlies.queue {seg : Segment} {p : Program} (h : HeadFlies seg p) : ∃ rest, p.queue = seg :: rest :=
  List.head?_eq_some_iff.mp h.heads

theorem HeadFlies.of_eq {seg : Segment} {p q : Program} (h : HeadFlies seg p) (hq : q.queue = p.queue)
    (hf : q.flight.isSome = p.flight.isSome) : HeadFlies seg q :=
  ⟨by rw [hq]; exact h.heads, by rw [hf]; exact h.flies⟩

/-- A head that leaves may let a segment wait until the next is taken into flight (R34, R42). -/
theorem retireThenTake_kept {seg : Segment} {s : State} (h : HeadFlies seg s.program) {f : State → State}
    (hf : ∀ u, QueuesKept u (f u)) : QueuesKept s (takeIntoFlight (f (retireHead seg s))) where
  ordered k := by
    obtain ⟨rest, hq⟩ := h.queue
    exact (takeIntoFlight_kept _).ordered ((hf _).ordered (retireHead_ordered hq k))
  waits _ := takeIntoFlight_noneWaits _
  notices k := (takeIntoFlight_kept _).notices ((hf (retireHead seg s)).notices k)
  hits k := (takeIntoFlight_kept _).hits ((hf (retireHead seg s)).hits k)
  line k := (takeIntoFlight_kept _).line ((hf (retireHead seg s)).line k)

theorem completeSegment_kept {seg : Segment} {s : State} (h : HeadFlies seg s.program) :
    QueuesKept s (completeSegment seg s) := by
  have next := retireThenTake_kept h (pushNotice_kept (.segmentDone seg.seq seg.body.kind false))
  unfold completeSegment
  simp only
  split
  · exact (next.trans (pulse_kept _ _)).trans (starvedTest_kept _)
  · exact next.trans (starvedTest_kept _)

theorem skipSegment_kept {seg : Segment} {s : State} (h : HeadFlies seg s.program) : QueuesKept s (skipSegment seg s) :=
  retireThenTake_kept (f := fun u => pulse .program (pushNotice (.segmentDone seg.seq seg.body.kind true) u)) h
    fun u => (pushNotice_kept _ u).trans (pulse_kept _ _)

theorem setSetpoint_kept (v : Int) (s : State) : QueuesKept s (setSetpoint v s) :=
  .of_program rfl rfl rfl rfl fun _ h => h

theorem setFlight_kept {seg : Segment} (g : Generator) {s : State} (h : HeadFlies seg s.program) :
    QueuesKept s (setFlight g s) :=
  .of_program rfl rfl rfl h.flies.symm fun _ h => h

theorem setFlight_headFlies {seg : Segment} (g : Generator) {s : State} (h : HeadFlies seg s.program) :
    HeadFlies seg (setFlight g s).program :=
  ⟨h.heads, rfl⟩

/-- A piece of the posture controller's work leaves the segment in flight there (R40). -/
theorem Piece.headFlies {b : Bool} {s t : State} {seg : Segment} (p : Piece b s t)
    (h : HeadFlies seg s.program) : HeadFlies seg t.program := by
  cases p with
  | still k => exact h.of_eq (by rw [k.program]) (by rw [k.program])
  | leaves p k o _ _ =>
    rw [changePosture_program, pauseProgram_eq]
    split
    · exact h.of_eq rfl (by simp)
    · exact h
  | runs k =>
    obtain ⟨g, hg⟩ := Option.isSome_iff_exists.mp h.flies
    refine h.of_eq (enterRun_queue k s) ?_
    have flies : (dropDemand (changePosture .run k none s)).program.flight = some g := by simp [hg]
    rw [enterRun, starvedTest_flight, takeIntoFlight_of_flying flies, flies, hg]
  | breaks _ => rw [askBreak_program]; exact h
  | _ => exact h

theorem Pieces.headFlies {b : Bool} {s t : State} {seg : Segment} (m : Pieces b s t) (h : HeadFlies seg s.program) :
    HeadFlies seg t.program := by
  induction m with
  | refl => exact h
  | tail _ p ih => exact p.headFlies ih

/-- An unwatched close and a watched one leave the program unit alone but for a pause (R157, R40). -/
theorem cycleClose_headFlies {seg : Segment} (close : CycleClose) (watch : Bool) {s : State}
    (h : HeadFlies seg s.program) :
    HeadFlies seg (cycleClose close watch s).program := by
  unfold cycleClose
  split
  · exact (report_pieces _ _ _).headFlies ((pushNotices_pieces (b := false) _ _).headFlies h)
  · exact h

theorem closeCycle_kept {seg : Segment} (mean : Int) (count done : Nat) (watch interrupted : Bool) {s : State}
    (h : HeadFlies seg s.program) : QueuesKept s (closeCycle seg mean count done watch interrupted s) := by
  have set : HeadFlies seg (setFlight (.cycle true 0 (done + 1) false) (setSetpoint (mean * 256) s)).program :=
    ⟨h.heads, rfl⟩
  have closed := ((setSetpoint_kept (mean * 256) s).trans (setFlight_kept (.cycle true 0 (done + 1) false)
    (s := setSetpoint (mean * 256) s) ⟨h.heads, h.flies⟩)).trans
    (cycleClose_kept ⟨seg.seq, done + 1, interrupted⟩ watch _)
  unfold closeCycle
  simp only
  split
  · exact closed.trans (completeSegment_kept (cycleClose_headFlies _ _ set))
  · exact closed

theorem stepCycle_kept {seg : Segment} (mean : Int) (amplitude quarter count : Nat) (watch : Bool) (phase done : Nat)
    (interrupted : Bool) {s : State} (h : HeadFlies seg s.program) :
    QueuesKept s (stepCycle seg mean amplitude quarter count watch phase done interrupted s) := by
  have halved : ∀ b, QueuesKept s { s with program := { s.program with halfStep := b } } := fun b =>
    .of_program rfl rfl rfl rfl fun _ h => h
  unfold stepCycle
  split
  · exact halved true
  · simp only
    split
    · exact (halved false).trans (closeCycle_kept _ _ _ _ _ ⟨h.heads, h.flies⟩)
    · exact ((halved false).trans (setSetpoint_kept _ _)).trans (setFlight_kept (seg := seg) _ ⟨h.heads, h.flies⟩)

theorem beginCycle_kept {seg : Segment} (mean : Int) (watch : Bool) {s : State} (h : HeadFlies seg s.program) :
    QueuesKept s (beginCycle seg mean watch s) := by
  unfold beginCycle
  split
  · exact skipSegment_kept h
  · exact ((setSetpoint_kept (mean * 256) s).trans
      (setFlight_kept (seg := seg) (.cycle true 0 0 false) ⟨h.heads, h.flies⟩)).trans (cycleBegin_kept seg.seq watch _)

theorem stepSegment_kept {seg : Segment} (g : Generator) {s : State} (h : HeadFlies seg s.program) :
    QueuesKept s (stepSegment seg g s) := by
  unfold stepSegment
  split
  · unfold stepRamp
    simp only
    split
    · exact (setSetpoint_kept _ s).trans (completeSegment_kept ⟨h.heads, h.flies⟩)
    · exact setSetpoint_kept _ s
  · unfold stepDwell
    simp only
    split
    · exact (setFlight_kept _ h).trans (completeSegment_kept (setFlight_headFlies _ h))
    · exact setFlight_kept _ h
  · exact beginCycle_kept _ _ h
  · exact stepCycle_kept _ _ _ _ _ _ _ _ h
  · exact .refl s

theorem programExpiry_kept (s : State) : QueuesKept s (programExpiry s) := by
  have derated : QueuesKept s (derateProgram s) := .of_program rfl rfl rfl rfl fun _ h => h
  unfold programExpiry
  simp only
  split
  · split
    next seg rest g hq hf => exact derated.trans (stepSegment_kept g ⟨by rw [hq]; rfl, by rw [hf]; rfl⟩)
    · exact derated
  · exact derated

end Sys2Proof.LoadProgram

namespace Sys2Proof.LoadProgram

open Sys2Proof Sys2Proof.Machine Sys2Proof.Laws Sys2Proof.Safety Sys2Proof.Claims Sys2Proof.Postures

/-! ### The servo loop -/

theorem takeLoad_kept (v : BitVec 24) (s : State) : QueuesKept s (takeLoad v s) := by
  unfold takeLoad
  split
  · exact .refl s
  · exact (QueuesKept.servo _ s).trans (report_kept _ _ _)

theorem takeDisplacement_kept (v : BitVec 24) (s : State) : QueuesKept s (takeDisplacement v s) := by
  unfold takeDisplacement
  split
  · exact .refl s
  · exact (QueuesKept.servo _ s).trans (report_kept _ _ _)

theorem targetStage_kept (s : State) : QueuesKept s (targetStage s) := by
  unfold targetStage
  split <;> exact .servo _ s

theorem loopStage_kept (s : State) : QueuesKept s (loopStage s) :=
  ((QueuesKept.servo _ s).trans (report_kept _ _ _)).trans (report_kept _ _ _)

theorem settleStage_kept (s : State) : QueuesKept s (settleStage s) := by
  unfold settleStage
  split
  · exact .refl s
  · split
    · exact .servo _ s
    · exact (QueuesKept.servo _ s).trans (.of_pieces (b := false) (endUnload_pieces _ _ _))

theorem controlPeriod_kept (s : State) : QueuesKept s (controlPeriod s) := by
  have before : QueuesKept s (beforeLoop s) :=
    (((QueuesKept.timers _ s).trans (.servo (countStale s.servo) _)).trans (report_kept _ _ _)).trans
      (programExpiry_kept _)
  unfold controlPeriod
  simp only
  split
  · exact before.trans (.servo _ _)
  · have looped : QueuesKept (beforeLoop s) (loopToStage8 (beforeLoop s)).1 :=
      (targetStage_kept _).trans (loopStage_kept _)
    split
    · exact (before.trans looped).trans (settleStage_kept _)
    · exact before.trans looped

/-! ### Settings -/

theorem idChanged_kept (s : State) : QueuesKept s (idChanged s) := by
  unfold idChanged
  simp only
  refine QueuesKept.trans (.of_line fun h => ?_) (removePeers_kept _ _ _)
  have seeded : CountsFit { s.line with generator := BitVec.ofNat 16 s.settings.stationId } :=
    SameTraffic.countsFit (l := s.line) ⟨rfl, rfl, rfl, rfl⟩ h
  split
  · exact silenceLine_countsFit seeded
  · exact settleTx_countsFit _ seeded

theorem strainEnableChanged_kept (i : Fin 32) (s : State) : QueuesKept s (strainEnableChanged i s) := by
  have turned : QueuesKept s (if s.settings.strain[i].enable then strainEnabled i s else strainDisabled i s) := by
    split
    · unfold strainEnabled
      simp only
      split
      · exact (QueuesKept.strain _ s).trans (.strain _ _)
      · exact .strain _ s
    · exact (QueuesKept.strain _ s).trans (abandonZeroing_kept i .disabled _)
  exact ((turned.trans (report_kept _ _ _)).trans (.strain _ _)).trans (evalDrift_kept _)

theorem driftWatchChanged_kept (i : Fin 32) (s : State) : QueuesKept s (driftWatchChanged i s) := by
  unfold driftWatchChanged
  split
  · exact (QueuesKept.strain _ s).trans (evalDrift_kept _)
  · exact evalDrift_kept s

theorem dropAck_kept (c : Cause) (s : State) : QueuesKept s (dropAck c s) := .of_still (setEntry_still c _ s)

theorem lineModeChanged_kept (i : Fin 4) (s : State) : QueuesKept s (lineModeChanged i s) := by
  unfold lineModeChanged
  split
  · exact dropAck_kept _ s
  · exact .refl s

theorem crackModeChanged_kept (i : Fin 8) (s : State) : QueuesKept s (crackModeChanged i s) := by
  unfold crackModeChanged
  split
  · exact (dropAck_kept (.crack i) s).trans (setCrackChannel_kept i _ _)
  · exact .refl s

theorem withIndex_kept {n : Nat} {f : Fin n → State → State} (h : ∀ i s, QueuesKept s (f i s)) (index : Nat)
    (s : State) : QueuesKept s (withIndex n index f s) := by
  unfold withIndex
  split
  · exact h _ s
  · exact .refl s

/-- Segments clamped again keep their numbers (R32). -/
theorem reclampQueue_kept (s : State) : QueuesKept s (reclampQueue s) :=
  .of_program (by simp [reclamp]) rfl rfl rfl fun _ h => h

theorem settingChanged_kept (number index : Nat) (s : State) : QueuesKept s (settingChanged number index s) := by
  unfold settingChanged
  split
  · exact idChanged_kept s
  · exact removePeers_kept _ _ s
  · exact reclampQueue_kept s
  · exact reclampQueue_kept s
  · exact reclampQueue_kept s
  · exact report_kept _ _ s
  · exact report_kept _ _ s
  · exact report_kept _ _ s
  · exact withIndex_kept (fun _ s => report_kept _ _ s) index s
  · exact withIndex_kept lineModeChanged_kept index s
  · exact withIndex_kept strainEnableChanged_kept index s
  · exact .strain _ s
  · exact withIndex_kept (fun _ s => report_kept _ _ s) index s
  · exact withIndex_kept driftWatchChanged_kept index s
  · exact evalDrift_kept s
  · exact withIndex_kept (fun i s => setCrackChannel_kept i _ s) index s
  · exact withIndex_kept (evalCrack_kept true) index s
  · exact withIndex_kept crackModeChanged_kept index s
  · exact .refl s

/-! ### Commands -/

theorem cmdSet_kept (number index : Nat) (v : Int) (s : State) : QueuesKept s (cmdSet number index v s).1 := by
  unfold cmdSet
  split
  · exact .refl s
  · split
    · exact .refl s
    · unfold accept applySetting
      simp only
      split
      · exact .refl s
      · exact (QueuesKept.settings _ s).trans (settingChanged_kept _ _ _)

theorem enterRun_kept (k : Option Cause) (s : State) : QueuesKept s (enterRun k s) :=
  .of_piece (b := false) (.runs k)

/-- An entry into HOLD at a START takes the head into flight (R20, R46). -/
theorem startHeld_kept (s : State) : QueuesKept s (startHeld s) where
  ordered h := takeIntoFlight_ordered (s := dropDemand (changePosture .hold none none (writeHoldRecord .peerHold s)))
    (changePosture_ordered (s := writeHoldRecord .peerHold s) none none (by simp) h)
  waits _ := takeIntoFlight_noneWaits _
  notices h := by
    unfold startHeld
    rw [takeIntoFlight_link]
    exact queueNotice_fits _ _ h
  hits h := (takeIntoFlight_kept _).hits h
  line h := (takeIntoFlight_kept _).line (SameTraffic.countsFit (l := s.line) ⟨rfl, rfl, rfl, rfl⟩ h)

theorem startStation_kept (s : State) : QueuesKept s (startStation s) := by
  have prepared : QueuesKept s (prepareStart s) :=
    { QueuesKept.of_program (s := s) (p := { s.program with setpoint := startCounts s * 256 }) rfl rfl rfl rfl
        fun _ h => h with }
  unfold startStation
  split
  · exact prepared.trans (startHeld_kept _)
  · exact prepared.trans (enterRun_kept none _)

theorem cmdStart_kept (s : State) : QueuesKept s (cmdStart s).1 := by
  unfold cmdStart
  split
  · exact .refl s
  · split
    · exact .refl s
    · exact startStation_kept s

theorem cmdResume_kept (s : State) : QueuesKept s (cmdResume s).1 := by
  unfold cmdResume
  split
  · exact .refl s
  · split
    · exact .refl s
    · exact enterRun_kept none s

/-- An empty queue with its counters at the start is in order (R46). -/
theorem clearProgram_ordered (a : Posture) (p : Program) : Ordered a (clearProgram p) :=
  ⟨Nat.zero_le 32, rfl, rfl, fun h => absurd h (by simp [clearProgram]), fun _ => ⟨rfl, rfl⟩⟩

theorem clearStation_program (s : State) : (clearStation s).program = clearProgram s.program := by
  unfold clearStation
  split
  · rfl
  · simp only [dropDemand, changePosture_program]
    split <;> rfl

theorem clearStation_kept (s : State) : QueuesKept s (clearStation s) where
  ordered _ := by rw [clearStation_program]; exact clearProgram_ordered _ _
  waits _ _ _ := by rw [clearStation_program]; rfl
  notices h := by
    unfold clearStation
    split
    · exact h
    · exact queueNotice_fits _ _ h
  hits h := by unfold clearStation; split <;> exact h
  line h := by
    unfold clearStation
    split <;> exact SameTraffic.countsFit (l := s.line) ⟨rfl, rfl, rfl, rfl⟩ h

theorem cmdClear_kept (s : State) : QueuesKept s (cmdClear s).1 := by
  unfold cmdClear
  split
  · exact .refl s
  · exact .refl s
  · exact .refl s
  · exact clearStation_kept s
  · split
    · exact .refl s
    · exact clearStation_kept s

theorem queueSegment_kept (body : SegBody) (inspect : Bool) {s : State} (room : s.program.queue.length < 32) :
    QueuesKept s (queueSegment body inspect s) where
  ordered h := takeIntoFlight_ordered (s := { s with program := { s.program with
      queue := s.program.queue ++ [appendedSegment body inspect s]
      nextToAssign := s.program.nextToAssign + 1
      starved := false } }) (h.append room rfl)
  waits _ := takeIntoFlight_noneWaits _
  notices h := by
    unfold queueSegment
    rw [takeIntoFlight_link]
    exact h
  hits h := (takeIntoFlight_kept _).hits h
  line h := (takeIntoFlight_kept _).line h

theorem cmdAppend_kept (seg : SegReq) (inspect : Bool) (s : State) : QueuesKept s (cmdAppend seg inspect s).1 := by
  unfold cmdAppend
  split
  · exact .refl s
  · split
    · exact .refl s
    · split
      · exact .refl s
      next room => exact queueSegment_kept _ _ (Nat.lt_of_not_le room)

/-- What FLUSH keeps of the queue: the segment in flight alone, numbered as before (R33). -/
theorem flushQueue_kept (s : State) : QueuesKept s (flushQueue s) := by
  unfold flushQueue
  refine QueuesKept.trans ?_ (starvedTest_kept _)
  split
  next g seg rest hf hq =>
    refine { QueuesKept.refl s with
      ordered := fun h => ?_
      waits := fun _ _ k => ?_ }
    · obtain ⟨number, -⟩ := h.head hq
      refine ⟨by simp, by simp [number], ?_, fun k => ⟨by simp, (h.flies k).2⟩, h.flags⟩
      simp only [number, List.length_singleton]
      rw [← seqAfter_succ]
    · simp [hf] at k
  next hn =>
    refine { QueuesKept.refl s with
      ordered := fun h => ?_
      waits := fun _ _ _ => rfl }
    refine ⟨by simp, rfl, by rfl, fun k => ?_, h.flags⟩
    obtain ⟨g, hg⟩ := Option.isSome_iff_exists.mp k
    obtain ⟨seg, rest, hq⟩ := List.exists_cons_of_ne_nil (h.flies k).1
    exact absurd hq (hn g seg rest hg)

theorem acknowledge_kept (exit : Bool) (c : Cause) (s : State) : QueuesKept s (acknowledge exit c s) := by
  have acked : QueuesKept s (ackEntry exit c s) := .of_pieces (b := false) (ackEntry_pieces exit c s)
  unfold acknowledge passAck
  split
  · exact (acked.trans (setCrackChannel_kept _ _ _)).trans (evalCrack_kept _ _ _)
  · exact acked

theorem acknowledgeAll_kept (s : State) : QueuesKept s (acknowledgeAll s) :=
  (foldl_kept (fun s c => acknowledge_kept false c s) Cause.all s).trans
    (.of_pieces (b := false) (holdExit_pieces none _))

theorem forgetPeer_kept (id : Nat) (s : State) : QueuesKept s (forgetPeer id s) := by
  unfold forgetPeer
  split
  · exact removePeers_kept _ _ s
  · exact .refl s

/-- Eight notices read leave a queue that fits (R192). -/
theorem dropNotices_kept (s : State) : QueuesKept s (dropNotices s) :=
  { QueuesKept.refl s with
    notices := fun h => by
      have len : (s.link.notices.drop 8).length = s.link.notices.length - 8 := List.length_drop
      refine ⟨?_, fun k => ?_⟩
      · exact len.trans_le (by have := h.1; omega)
      · have k : (s.link.notices.drop 8).length = 32 := k
        have := h.1
        omega }

theorem dropHits_kept (s : State) : QueuesKept s (dropHits s) :=
  { QueuesKept.refl s with
    hits := fun h => ⟨(List.length_drop ▸ Nat.sub_le _ _ : (s.crack.fifo.drop 8).length ≤ _).trans h.1, h.2⟩ }

theorem resetStation_kept (s : State) : QueuesKept s (resetStation s) where
  ordered _ := clearProgram_ordered .idle {}
  waits _ _ _ := rfl
  notices _ := ⟨Nat.zero_le 32, fun h => absurd h (by simp [resetStation, State.reset])⟩
  hits _ := ⟨Nat.zero_le 64, Nat.zero_le 255⟩
  line _ := countsFit_of_rest rfl fun n _ hc => by cases n <;> cases hc

theorem cmdGet_kept (number index : Nat) (s : State) : QueuesKept s (cmdGet number index s).1 := by
  unfold cmdGet; split <;> exact .refl s

theorem cmdHold_kept (s : State) : QueuesKept s (cmdHold s).1 := by
  unfold cmdHold
  split
  · exact pulse_kept _ s
  · exact pulse_kept _ s
  all_goals exact .refl s

theorem cmdUnload_kept (s : State) : QueuesKept s (cmdUnload s).1 := by
  unfold cmdUnload
  split
  · exact pulse_kept _ s
  · exact pulse_kept _ s
  · exact pulse_kept _ s
  all_goals exact .refl s

theorem cmdAck_kept (kind index : Nat) (s : State) : QueuesKept s (cmdAck kind index s).1 := by
  unfold cmdAck
  split
  · exact acknowledge_kept true _ s
  · exact .refl s

theorem cmdForget_kept (id : Nat) (s : State) : QueuesKept s (cmdForget id s).1 := by
  unfold cmdForget
  split
  · exact .refl s
  · exact forgetPeer_kept id s

theorem cmdZero_kept (mask : BitVec 32) (s : State) : QueuesKept s (cmdZero mask s).1 := by
  unfold cmdZero
  split
  · exact .strain _ s
  · exact .strain _ s
  all_goals exact .refl s

theorem cmdClearPeak_kept (s : State) : QueuesKept s (cmdClearPeak s).1 := by
  unfold cmdClearPeak
  split
  · exact .servo _ s
  · exact .servo _ s
  all_goals exact .refl s

theorem cmdReadLine_kept (s : State) : QueuesKept s (cmdReadLine s).1 :=
  setLine_kept (l := clearFlags s.line) ⟨rfl, rfl, rfl, rfl⟩

theorem cmdAckAll_kept (s : State) : QueuesKept s (cmdAckAll s).1 := by
  simp only [cmdAckAll, accept]; exact acknowledgeAll_kept s

/-- Every command of the station link keeps the four laws. -/
theorem commandBody_kept (c : Instr) (s : State) : QueuesKept s (commandBody c s).1 := by
  cases c with
  | set n i v =>
    rw [show commandBody (.set n i v) = cmdSet n.toNat i.toNat v.toInt from rfl]
    exact cmdSet_kept n.toNat i.toNat v.toInt s
  | get n i => rw [show commandBody (.get n i) = cmdGet n.toNat i.toNat from rfl]; exact cmdGet_kept n.toNat i.toNat s
  | start => exact cmdStart_kept s
  | hold => exact cmdHold_kept s
  | resume => exact cmdResume_kept s
  | unload => exact cmdUnload_kept s
  | clear => exact cmdClear_kept s
  | append seg inspect => exact cmdAppend_kept seg inspect s
  | flush => exact flushQueue_kept s
  | ack k i => rw [show commandBody (.ack k i) = cmdAck k.toNat i.toNat from rfl]; exact cmdAck_kept k.toNat i.toNat s
  | ackAll => rw [show commandBody .ackAll = cmdAckAll from rfl]; exact cmdAckAll_kept s
  | zero mask => exact cmdZero_kept mask s
  | clearExtremes => rw [show commandBody .clearExtremes = cmdClearExtremes from rfl]; exact .strain _ s
  | clearPeak => exact cmdClearPeak_kept s
  | forget id => rw [show commandBody (.forget id) = cmdForget id.toNat from rfl]; exact cmdForget_kept id.toNat s
  | readHits => exact dropHits_kept s
  | readNotices => exact dropNotices_kept s
  | readLine => exact cmdReadLine_kept s
  | reset => exact resetStation_kept s
  | _ => exact .refl s

/-! ### The station link, the events and the tick -/

theorem takeMessage_kept {body : State → State × Reply} (h : ∀ s, QueuesKept s (body s).1) (msg : List Byte)
    (s : State) : QueuesKept s (takeMessage msg body s) :=
  ((((report_kept .hostSilent false s).trans (h _)).trans (.of_link rfl)).trans (.of_link rfl)).trans (.of_link rfl)

theorem clockResponse_kept (response : List Byte) (n : Nat) (s : State) :
    QueuesKept s (clockResponse response n s) := by
  unfold clockResponse
  split <;> exact .of_link rfl

theorem exchange_kept {body : State → State × Reply} (h : ∀ s, QueuesKept s (body s).1) (msg : List Byte) (s : State) :
    QueuesKept s (exchange msg body s) := by
  unfold exchange
  split
  · exact clockResponse_kept _ _ s
  · split
    · exact .of_link rfl
    · exact takeMessage_kept h msg s

theorem messageBody_kept (msg : List Byte) (s : State) : QueuesKept s (messageBody msg s).1 := by
  unfold messageBody
  cases parseMessage msg with
  | error code => exact .refl s
  | ok c => exact commandBody_kept c s

theorem readPending_kept (n : Nat) (s : State) : QueuesKept s (readPending n s) := by
  unfold readPending
  split
  · exact clockResponse_kept _ _ s
  · exact .refl s

theorem reportPeriod_kept (s : State) : QueuesKept s (reportPeriod s) := by
  have filled : ∀ u, QueuesKept u (fillReport u) := fun u =>
    .of_lineOnly (by unfold fillReport; split <;> rfl) fillReport_countsFit
  have lined : QueuesKept s (reportPeriodLine s) := by
    unfold reportPeriodLine
    simp only
    refine QueuesKept.trans ?_ (filled _)
    split
    · exact (QueuesKept.timers _ s).trans (.of_lineOnly (askBreak_eq _) askBreak_countsFit)
    · exact .timers _ s
  have aged : ∀ u, QueuesKept u (agingPass u) := fun u =>
    (((((setPeers_kept _ u).trans (pushNotices_kept _ _)).trans (evalPeers_kept _)).trans
      (by unfold stepTrim; split <;> exact .peers _ _)).trans (evalPacing_kept _))
  exact lined.trans (aged _)

theorem setPort_kept (i : Fin 4) (p : PortLine) (s : State) : QueuesKept s (setPort i p s) :=
  .of_still { Still.refl s with }

theorem debounced_kept (line : Fin 4) (s : State) : QueuesKept s (debounced line s) := by
  unfold debounced
  split
  · exact (setPort_kept _ _ s).trans (report_kept _ _ _)
  · exact .refl s

theorem expireSilence_kept (s : State) : QueuesKept s (expireSilence s) := by
  unfold expireSilence
  split
  · refine QueuesKept.trans ?_ (report_kept _ _ _)
    exact .of_link rfl
  · exact .refl s
  · exact .refl s

/-- A row that acts only where its trigger holds (log 4). -/
theorem ite_kept {b : Bool} {s t : State} (h : QueuesKept s t) : QueuesKept s (if b then t else s) := by
  split
  · exact h
  · exact .refl s

/-- Every row of the table keeps the four laws. -/
theorem exec_kept (i : Instr) (s : State) : ∃ t, exec i s = .next t ∧ QueuesKept s t := by
  cases i with
  | powerOnReset => exact ⟨_, rfl, resetStation_kept s⟩
  | unknownCommand m => exact ⟨_, rfl, exchange_kept (messageBody_kept m) m s⟩
  | pendingResponseRead n => exact ⟨_, rfl, readPending_kept n s⟩
  | controlPeriodExpiry => exact ⟨_, rfl, controlPeriod_kept s⟩
  | loadStale => exact ⟨_, rfl, ite_kept (controlPeriod_kept s)⟩
  | settleTimeExceeded => exact ⟨_, rfl, ite_kept (controlPeriod_kept s)⟩
  | reportPeriodExpiry => exact ⟨_, rfl, reportPeriod_kept s⟩
  | chatterWindowExpiry => exact ⟨_, rfl, (QueuesKept.timers _ s).trans (setPeers_kept _ _)⟩
  | rateWindowExpiry => exact ⟨_, rfl, (QueuesKept.timers _ s).trans (closeRateWindow_kept _)⟩
  | hostSilenceExpiry => exact ⟨_, rfl, expireSilence_kept s⟩
  | interlockInputChange l o => exact ⟨_, rfl, .of_still { Still.refl s with }⟩
  | debounceExpiry l => exact ⟨_, rfl, debounced_kept l s⟩
  | loadSample v => exact ⟨_, rfl, takeLoad_kept v s⟩
  | displacementSample v => exact ⟨_, rfl, takeDisplacement_kept v s⟩
  | strainSample ch v => exact ⟨_, rfl, takeStrainSample_kept ch v s⟩
  | envelopeSample ch v => exact ⟨_, rfl, takeEnvelope_kept ch v s⟩
  | hitEnd ch v => exact ⟨_, rfl, ite_kept (takeEnvelope_kept ch v s)⟩
  | lockoutEnd ch v => exact ⟨_, rfl, ite_kept (takeEnvelope_kept ch v s)⟩
  | frameReceived cs stop noisy => exact ⟨_, rfl, receiveChars_kept cs stop noisy s⟩
  | breakRecognised => exact ⟨_, rfl, recogniseBreak_kept s⟩
  | receiverHuntResume => exact ⟨_, rfl, resumeHunt_kept s⟩
  | attemptStart => exact ⟨_, rfl, startAttempt_kept s⟩
  | frameSent => exact ⟨_, rfl, finishAttempt_kept s⟩
  | contention bit => exact ⟨_, rfl, contend_kept bit s⟩
  | backoffEnd => exact ⟨_, rfl, endBackoff_kept s⟩
  | breakEnd => exact ⟨_, rfl, endBreak_kept s⟩
  | falseStart noisy => exact ⟨_, rfl, falseStarted_kept noisy s⟩
  | lineReturnsToMark => exact ⟨_, rfl, markReturned_kept s⟩
  | set n i v => exact ⟨_, rfl, exchange_kept (cmdSet_kept n.toNat i.toNat v.toInt) _ s⟩
  | get n i => exact ⟨_, rfl, exchange_kept (cmdGet_kept n.toNat i.toNat) _ s⟩
  | ack k i => exact ⟨_, rfl, exchange_kept (cmdAck_kept k.toNat i.toNat) _ s⟩
  | forget id => exact ⟨_, rfl, exchange_kept (cmdForget_kept id.toNat) _ s⟩
  | start => exact ⟨_, rfl, exchange_kept cmdStart_kept _ s⟩
  | hold => exact ⟨_, rfl, exchange_kept cmdHold_kept _ s⟩
  | resume => exact ⟨_, rfl, exchange_kept cmdResume_kept _ s⟩
  | unload => exact ⟨_, rfl, exchange_kept cmdUnload_kept _ s⟩
  | clear => exact ⟨_, rfl, exchange_kept cmdClear_kept _ s⟩
  | append seg inspect => exact ⟨_, rfl, exchange_kept (cmdAppend_kept seg inspect) _ s⟩
  | flush => exact ⟨_, rfl, exchange_kept flushQueue_kept _ s⟩
  | ackAll => exact ⟨_, rfl, exchange_kept cmdAckAll_kept _ s⟩
  | zero mask => exact ⟨_, rfl, exchange_kept (cmdZero_kept mask) _ s⟩
  | clearExtremes => exact ⟨_, rfl, exchange_kept (fun s => .strain _ s) _ s⟩
  | clearPeak => exact ⟨_, rfl, exchange_kept cmdClearPeak_kept _ s⟩
  | readHits => exact ⟨_, rfl, exchange_kept dropHits_kept _ s⟩
  | readNotices => exact ⟨_, rfl, exchange_kept dropNotices_kept _ s⟩
  | readLine => exact ⟨_, rfl, exchange_kept cmdReadLine_kept _ s⟩
  | reset => exact ⟨_, rfl, exchange_kept resetStation_kept _ s⟩
  | _ => exact ⟨_, rfl, exchange_kept (fun s => .refl s) _ s⟩

theorem passBitTime_kept (s : State) : QueuesKept s (passBitTime s) := { QueuesKept.refl s with line := tick_countsFit }

theorem takeEdge_kept (e : HostEdge) (s : State) : QueuesKept s (takeEdge e s) := by
  cases e with
  | release =>
    show QueuesKept s (releaseSelect s)
    unfold releaseSelect
    split
    · exact .of_still { Still.refl s with }
    · exact .refl s
  | pause => exact .refl s
  | select => exact .of_link (by simp only [Link.asserted]; split <;> rfl)
  | clock bit => exact .of_link (by simp only [Link.clocked]; split <;> rfl)

theorem tick_kept (s : State) : QueuesKept s (tick s) := by
  have edged : ∀ es, QueuesKept s (nextEdge es s) := fun es => .of_link rfl
  unfold tick
  split
  · exact .of_still { Still.refl s with }
  · split
    · exact passBitTime_kept s
    · exact (edged _).trans (passBitTime_kept _)
    · exact (edged _).trans (takeEdge_kept _ _)

theorem step_kept {s t : State} (h : step s = .next t) : QueuesKept s t := by
  unfold step at h
  split at h
  · cases h; exact tick_kept s
  next c rest _ =>
    have dequeued : QueuesKept s { s with pending := rest } := .of_still { Still.refl s with }
    obtain ⟨u, hu, hk⟩ := exec_kept c { s with pending := rest }
    rw [hu] at h
    cases h
    exact dequeued.trans hk

/-- Settles O57: each law is one that every row of the table, and the tick, keeps. -/
theorem everyStepKeepsTheQueues : Obligations.EveryStepKeepsTheQueues := by
  refine ⟨fun s t hs h => ?_, fun s t hs h => (step_kept h).notices hs, fun s t hs h => (step_kept h).hits hs,
    fun s t hs h => (lineLaw_iff t).mpr ((step_kept h).line ((lineLaw_iff s).mp hs))⟩
  obtain ⟨ordered, waits⟩ := (programLaw_iff s).mp hs
  exact (programLaw_iff t).mpr ⟨(step_kept h).ordered ordered, (step_kept h).waits waits⟩

end Sys2Proof.LoadProgram

/-! ## The segment queue at commands (R30 to R33) -/

namespace Sys2Proof.LoadProgram

open Sys2Proof Sys2Proof.Machine Sys2Proof.Laws Sys2Proof.Safety Sys2Proof.Claims Sys2Proof.Postures

/-! ### Clamping (R31, R32) -/

/-- A value brought into a range whose ends may stand in either order takes the nearer bound (R31). -/
theorem clampTo_broughtInto (lo hi v : Int) : BroughtInto lo hi v (clampTo lo hi v) := by
  unfold BroughtInto clampTo; omega

theorem clampTo_twice (lo hi v : Int) : clampTo lo hi (clampTo lo hi v) = clampTo lo hi v := by
  unfold clampTo; omega

/-- A field from 1 to its width's bound (R31). -/
theorem count_broughtInto {top : Nat} (h : 1 ≤ top) (v : Nat) :
    BroughtInto 1 top v ((min (max v 1) top : Nat) : Int) := by
  unfold BroughtInto; omega

/-- Inside floor and ceiling the amplitude keeps what room the mean leaves it (R31). -/
theorem amplitude_broughtInto {st : Settings} (h : st.floor ≤ st.ceiling) (mean : Int) (amplitude : Nat) :
    BroughtInto 0 (min (clampTo st.floor st.ceiling mean - st.floor) (st.ceiling - clampTo st.floor st.ceiling mean))
      amplitude ((min (amplitude : Int) (amplitudeRoom st (clampTo st.floor st.ceiling mean))).toNat : Int) := by
  unfold BroughtInto amplitudeRoom clampTo; omega

theorem amplitude_of_crossed {st : Settings} (h : st.ceiling < st.floor) (mean : Int) (amplitude : Nat) :
    (min (amplitude : Int) (amplitudeRoom st mean)).toNat = 0 := by
  unfold amplitudeRoom; omega

/-- A clamped segment is clamped no further (R31). -/
theorem clampBody_twice {st : Settings} (h : 1 ≤ st.rampStepMax) (b : SegBody) :
    clampBody st (clampBody st b) = clampBody st b := by
  cases b with
  | ramp target rate =>
    have rates : min (max (min (max rate 1) st.rampStepMax) 1) st.rampStepMax = min (max rate 1) st.rampStepMax := by
      omega
    simp only [clampBody, clampTo_twice, rates]
  | dwell duration => simp only [clampBody, SegBody.dwell.injEq]; omega
  | cycle mean amplitude quarter count watch =>
    simp only [clampBody, clampTo_twice, SegBody.cycle.injEq]
    exact ⟨trivial, by omega, by omega, by omega, trivial⟩

/-- Settles O21, field by field. -/
theorem clampedSegmentLiesInRange : Obligations.ClampedSegmentLiesInRange := by
  intro st b h
  refine ⟨?_, ?_, ?_, clampBody_twice h b⟩
  · rintro target rate rfl
    exact ⟨_, _, rfl, clampTo_broughtInto _ _ _, count_broughtInto h rate⟩
  · rintro duration rfl
    exact ⟨_, rfl, count_broughtInto (by decide) duration⟩
  · rintro mean amplitude quarter count watch rfl
    exact ⟨_, _, _, _, rfl, clampTo_broughtInto _ _ _, count_broughtInto (by decide) quarter,
      count_broughtInto (by decide) count, fun crossed => amplitude_of_crossed crossed _ amplitude,
      fun ordered => amplitude_broughtInto ordered mean amplitude⟩

/-! ### APPEND and FLUSH (R30, R33) -/

/-- The state is another's but for the program unit and the notices. -/
def ProgramOnly (s t : State) : Prop :=
  t = { s with program := t.program, link := { s.link with notices := t.link.notices } }

/-- A command whose work is the program unit's answers and changes nothing else (R187). -/
theorem afterReply_of_programOnly {s t : State} (c : Instr) (code : Byte) (r : Reply) (h : ProgramOnly s t) :
    afterReply c code r t =
      { s with program := t.program, link := exchanged s (afterReply c code r t) } := by
  have h : t = { s with program := t.program, link := { s.link with notices := t.link.notices } } := h
  have host : SameHost s.link t.link := by rw [h]; rfl
  have link := afterReply_link (c := c) (code := code) (r := r) host
  refine state_ext ?_ ?_ ?_ ?_ ?_ ?_ ?_ ?_ ?_ ?_ ?_ ?_ ?_ link ?_ ?_ ?_ <;> simp <;> rw [h]

theorem takeIntoFlight_programOnly {s t : State} (h : ProgramOnly s t) : ProgramOnly s (takeIntoFlight t) := by
  have h : t = { s with program := t.program, link := { s.link with notices := t.link.notices } } := h
  rw [ProgramOnly, takeIntoFlight_eq, h]

theorem starvedTest_programOnly {s t : State} (h : ProgramOnly s t) : ProgramOnly s (starvedTest t) := by
  have h : t = { s with program := t.program, link := { s.link with notices := t.link.notices } } := h
  rw [ProgramOnly, starvedTest_eq, h]

theorem byteOf_eq (b : Bool) : byteOf b = [if b then 1#8 else 0#8] := by cases b <;> rfl

/-- Outside RUN and HOLD the queue alone takes no segment into flight (R34). -/
theorem takeIntoFlight_of_resting {s : State} (h : ¬(s.posture = .run ∨ s.posture = .hold)) : takeIntoFlight s = s :=
  if_neg h

/-- Settles O20, by the checks of APPEND in their order and by what taking a segment into flight does. -/
theorem appendJoinsTheTail : Obligations.AppendJoinsTheTail := by
  refine ⟨fun seg inspect s hr => ⟨fun hb => ?_, fun hb hu hs full => ?_⟩,
    fun seg inspect body s hr hb hu hs room => ?_⟩
  · exact answersOnly_of_body (r := ⟨.format, []⟩) rfl rfl hr (by simp [cmdAppend, hb, refuse])
  · obtain ⟨body, hb⟩ := Option.ne_none_iff_exists'.mp hb
    exact answersOnly_of_body (r := ⟨.full, []⟩) rfl rfl hr
      (by simp [cmdAppend, hb, hu, hs, Config.segmentPlaces, full, refuse])
  · let g := appendedSegment body inspect s
    let joined : State := { s with program := { s.program with
      queue := s.program.queue ++ [g], nextToAssign := s.program.nextToAssign + 1, starved := false } }
    have body : cmdAppend seg inspect s = (takeIntoFlight joined,
        ⟨.ok, be 2 s.program.nextToAssign.toNat ++ [if g.clamped then 1#8 else 0#8]⟩) := by
      simp [cmdAppend, hb, hu, hs, Config.segmentPlaces, Nat.not_le.mpr room, accept, byteOf_eq, queueSegment, joined,
        g]
    have only : ProgramOnly s (takeIntoFlight joined) := takeIntoFlight_programOnly rfl
    have k := takeIntoFlight_keeps joined
    refine ⟨_, g, exec_of_body rfl rfl hr body, rfl, ?_, ?_, ?_⟩
    · rw [afterReply_program]; exact afterReply_of_programOnly _ _ _ only
    · rw [afterReply_notices, takeIntoFlight_link]
    · simp only [afterReply_program]
      refine ⟨k.queue, k.nextToAssign, takeIntoFlight_starved joined, k.lastCompleted, k.setpoint, ?_, ?_, ?_,
        afterReply_answers _ _ _ _⟩
      · unfold takeIntoFlight
        split
        · split <;> rfl
        · rfl
      · rintro (idle | flies)
        · rw [takeIntoFlight_of_resting (by simp [joined, idle])]
        · obtain ⟨f, hf⟩ := Option.isSome_iff_exists.mp flies
          rw [takeIntoFlight_of_flying (s := joined) hf]
      · intro hi hf
        have runs : joined.posture = .run ∨ joined.posture = .hold := by
          show s.posture = .run ∨ s.posture = .hold
          cases hp : s.posture <;> simp_all
        exact takeIntoFlight_flight runs hf

/-- What FLUSH leaves of the program unit before the starved test (R33). -/
def flushed (s : State) : State :=
  { s with program :=
      match s.program.flight, s.program.queue with
      | some _, seg :: _ => { s.program with queue := [seg], nextToAssign := seg.seq + 1 }
      | _, _ => { s.program with queue := [], nextToAssign := s.program.lastCompleted + 1 } }

theorem flushed_of_flying {s : State} {seg : Segment} {rest : List Segment} (hf : s.program.flight.isSome = true)
    (hq : s.program.queue = seg :: rest) :
    flushed s = { s with program := { s.program with queue := [seg], nextToAssign := seg.seq + 1 } } := by
  obtain ⟨g, hg⟩ := Option.isSome_iff_exists.mp hf
  unfold flushed
  rw [hg, hq]

theorem flushed_of_empty {s : State} (h : s.program.flight = none ∨ s.program.queue = []) :
    flushed s = { s with program :=
      { s.program with queue := [], nextToAssign := s.program.lastCompleted + 1 } } := by
  unfold flushed
  split
  next hf hq => obtain h | h := h <;> simp [h] at hf hq
  · rfl

/-- Of the flight's state, the setpoint and the last completed FLUSH changes nothing (R33). -/
theorem flushed_cases (s : State) :
    (∃ seg rest, s.program.flight.isSome = true ∧ s.program.queue = seg :: rest ∧
      flushed s = { s with program := { s.program with queue := [seg], nextToAssign := seg.seq + 1 } }) ∨
    (s.program.flight = none ∨ s.program.queue = []) ∧
      flushed s = { s with program :=
        { s.program with queue := [], nextToAssign := s.program.lastCompleted + 1 } } := by
  cases hf : s.program.flight with
  | none => exact .inr ⟨.inl rfl, flushed_of_empty (.inl hf)⟩
  | some g =>
    cases hq : s.program.queue with
    | nil => exact .inr ⟨.inr rfl, flushed_of_empty (.inr hq)⟩
    | cons seg rest => exact .inl ⟨seg, rest, rfl, rfl, flushed_of_flying (by rw [hf]; rfl) hq⟩

/-- The starved test in RUN with an empty queue raises its notice where the flag was clear (R43). -/
theorem starvedTest_starves {s : State} (hp : s.posture = .run) (hf : s.program.flight = none)
    (hq : s.program.queue = []) (hs : s.program.starved = false) : starvedTest s =
      pushNotice (.starved s.program.lastCompleted) { s with program := { s.program with starved := true } } :=
  if_pos ⟨hp, hf, hq, hs⟩

theorem starvedTest_idle {s : State}
    (h : ¬(s.posture = .run ∧ s.program.flight = none ∧ s.program.starved = false)) : starvedTest s = s :=
  if_neg fun k => h ⟨k.1, k.2.1, k.2.2.2⟩

theorem queueNotice_short {q : List NoticeEntry} (h : q.length ≤ 30) (t : BitVec 32) (n : Notice) :
    queueNotice t n q = q ++ [⟨t, n⟩] := if_pos h

/-- Settles O22, by whether a segment is in flight at the head of the queue. -/
theorem flushKeepsTheSegmentInFlight : Obligations.FlushKeepsTheSegmentInFlight := by
  intro s hr
  have only : ProgramOnly s (starvedTest (flushed s)) := starvedTest_programOnly rfl
  have k := starvedTest_keeps (flushed s)
  have flush : flushQueue s = starvedTest (flushed s) := rfl
  have body : cmdFlush s = (starvedTest (flushed s),
      ⟨.ok, be 1 ((s.program.queue.length - (starvedTest (flushed s)).program.queue.length : Nat) : Int)⟩) := by
    rw [cmdFlush, flush]
    rfl
  have kept : (flushed s).program.flight = s.program.flight ∧ (flushed s).program.starved = s.program.starved ∧
      (flushed s).program.lastCompleted = s.program.lastCompleted ∧
      (flushed s).program.setpoint = s.program.setpoint := by
    obtain ⟨_, _, -, -, e⟩ | ⟨-, e⟩ := flushed_cases s <;> rw [e] <;> exact ⟨rfl, rfl, rfl, rfl⟩
  obtain ⟨flight, starved, last, setpoint⟩ := kept
  have emptied (hf : s.program.flight = none) : (flushed s).program.queue = [] := by
    rw [flushed_of_empty (.inl hf)]
  refine ⟨_, exec_of_body rfl rfl hr body, ?_⟩
  rw [afterReply_program, afterReply_notices]
  refine ⟨afterReply_of_programOnly _ _ _ only, ?_, ?_, k.setpoint.trans setpoint, k.lastCompleted.trans last, ?_, ?_,
    ?_, ?_, ?_, afterReply_answers _ _ _ _⟩
  · rw [starvedTest_queue]
    obtain ⟨seg, rest, hf, hq, e⟩ | ⟨h, e⟩ := flushed_cases s <;> rw [e]
    · rw [if_pos hf, hq]; rfl
    · obtain h | h := h <;> simp [h]
  · rw [starvedTest_flight, flight]
  · intro hf
    rw [k.nextToAssign, flushed_of_empty (.inl hf)]
  · intro g rest hf hq
    rw [k.nextToAssign, flushed_of_flying hf hq]
  · intro hp hf
    exact starvedTest_starved hp (flight.trans hf) (emptied hf)
  · by_cases h : s.posture = .run ∧ s.program.flight = none ∧ s.program.starved = false
    · exact .inl h
    · rw [starvedTest_idle (by rw [flight, starved]; exact h)]
      exact .inr rfl
  · intro hp hf hs few
    rw [starvedTest_starves (s := flushed s) hp (flight.trans hf) (emptied hf) (starved.trans hs), last]
    exact queueNotice_short few _ _

end Sys2Proof.LoadProgram

/-! ## The control period at rest (R41, R50, R53, R65, R66) -/

namespace Sys2Proof.LoadProgram

open Sys2Proof Sys2Proof.Machine Sys2Proof.Laws Sys2Proof.Safety Sys2Proof.Claims Sys2Proof.Postures

/-- The state is another's but for entry c and the notices. -/
structure OnlyEntry (c : Cause) (s t : State) : Prop where
  frame : t = { s with causes := t.causes, link := { s.link with notices := t.link.notices } }
  others : ∀ d, d ≠ c → t.entry d = s.entry d

theorem OnlyEntry.refl (c : Cause) (s : State) : OnlyEntry c s s := ⟨rfl, fun _ _ => rfl⟩

theorem withCondition_onlyEntry (c : Cause) (v : Bool) (s : State) : OnlyEntry c s (withCondition c v s) :=
  ⟨rfl, fun d hd => by rw [withCondition_entry, if_neg hd]⟩

theorem OnlyEntry.behind {c : Cause} {v : Bool} {s t : State} (h : OnlyEntry c (withCondition c v s) t) :
    OnlyEntry c s t :=
  ⟨h.frame, fun d hd => (h.others d hd).trans ((withCondition_onlyEntry c v s).others d hd)⟩

theorem latchMarked_onlyEntry {c : Cause} {s : State} (h : hallStopOf s.settings c = false) :
    OnlyEntry c s (latchMarked c s) := by
  refine ⟨?_, fun d hd => by rw [latchMarked_entry, if_neg hd]⟩
  unfold latchMarked
  simp [h, pushNotice, setEntry]

theorem clearLatch_onlyEntry {c : Cause} {s : State} (h : classOf s.settings c ≠ .hold) :
    OnlyEntry c s (clearLatch c s) := by
  refine ⟨?_, fun d hd => by rw [clearLatch_entry, if_neg hd]⟩
  rw [clearLatch_eq, if_neg h]
  rfl

/-- In IDLE and SAFE a report of an entry that neither holds nor breaks works on its entry alone (R5, R11, R13). -/
theorem reportWith_at_rest {c : Cause} (exit v : Bool) {s : State} (hp : s.posture = .idle ∨ s.posture = .safe)
    (hb : hallStopOf s.settings c = false) (hc : classOf s.settings c ≠ .hold) :
    OnlyEntry c s (reportWith exit c v s) := by
  have away : s.posture ≠ .hold ∧ s.posture ≠ .unload := by obtain hp | hp := hp <;> simp [hp]
  cases v with
  | false =>
    obtain e | e := reportWith_fall_cases exit c s <;> rw [e]
    · exact withCondition_onlyEntry c false s
    · rw [clearEntry_out_of_hold _ _ _ (by exact away.1)]
      exact (clearLatch_onlyEntry (s := withCondition c false s) hc).behind
  | true =>
    cases h : (s.entry c).condition with
    | true => rw [reportWith_same h]; exact .refl c s
    | false =>
      cases hl : (s.entry c).latched with
      | true =>
        rw [reportWith_rise_latched hl fun k => away.2 k.2]
        exact withCondition_onlyEntry c true s
      | false =>
        have marked := latchMarked_onlyEntry (s := withCondition c true s) hb
        rw [reportWith_rise h hl, latch_eq, postureOnLatch_rests _ _ (by simpa using hp)]
        exact (if_neg hc).symm ▸ marked.behind

/-- Settles O32: stage 1 works on LOAD_STALE's entry alone, and the program unit and stage 2 follow. -/
theorem restingPeriodKeepsTheValveShut : Obligations.RestingPeriodKeepsTheValveShut := by
  intro s hp
  let counted : State := { s with servo := countStale s.servo, timers := { s.timers with control := 1000 } }
  let u := report .loadStale (loadStaleCondition s.settings (countStale s.servo)) counted
  obtain ⟨frame, others⟩ : OnlyEntry .loadStale counted u := reportWith_at_rest true _ hp rfl (by simp [classOf])
  have condition : (u.entry .loadStale).condition = loadStaleCondition s.settings (countStale s.servo) :=
    reportWith_condition (by simp) (by simp) true _ counted
  have posture : u.posture = s.posture := by rw [frame]
  have before : beforeLoop s = derateProgram u := by
    show programExpiry u = _
    rw [programExpiry, if_neg]
    rintro ⟨k, -⟩
    rw [derateProgram_posture, posture] at k
    obtain hp | hp := hp <;> simp [hp] at k
  have period : controlPeriod s = { derateProgram u with servo := { u.servo with valve := 0 } } := by
    rw [controlPeriod, before]
    exact if_pos (by rw [derateProgram_posture, posture]; exact hp)
  have servo : u.servo = countStale s.servo := by rw [frame]
  have program : u.program = s.program := by rw [frame]
  have strain : u.strain = s.strain := by rw [frame]
  refine ⟨_, congrArg Host.Outcome.next period, ?_, ?_, ?_, others, ?_⟩
  · simp only [servo]; rfl
  · simp only [derateProgram, program, strain]
  · exact condition.trans (by simp only [servo]; rfl)
  · rw [derateProgram, frame]

end Sys2Proof.LoadProgram

/-! ## The control period while the program stands (R35, R53 to R59) -/

namespace Sys2Proof.LoadProgram

open Sys2Proof Sys2Proof.Machine Sys2Proof.Laws Sys2Proof.Safety Sys2Proof.Claims Sys2Proof.Postures

/-! ### The loop in RUN and HOLD -/

/-- Stages 3 to 8 and their reports behind the program unit's work, in RUN and HOLD (R53, R54; log 40). -/
theorem controlPeriod_of_before {s u : State} (h : loadFresh s) (hu : beforeLoop s = u)
    (hp : u.posture = .run ∨ u.posture = .hold) (servo : u.servo = countStale s.servo)
    (settings : u.settings = s.settings) (peers : u.peers = s.peers) :
    controlPeriod s = loopReported { u with servo := loopAfter s (targetAt s u.program.setpoint) } := by
  have rests : ¬(u.posture = .idle ∨ u.posture = .safe) := by obtain hp | hp := hp <;> simp [hp]
  have loads : u.posture ≠ .unload := by obtain hp | hp := hp <;> simp [hp]
  have computed : ∀ v : State, loopStage v =
      loopReported { v with servo := loopStages v.settings v.loadNow v.servo } := fun _ => rfl
  have target : targetStage u = { u with servo :=
      { countStale s.servo with target := targetAt s u.program.setpoint } } := by
    rw [targetStage, if_neg loads, servo, settings, peers]
    rfl
  rw [controlPeriod, hu, if_neg rests, loopToStage8]
  simp only [loads, decide_false, Bool.false_and, Bool.false_eq_true, if_false]
  rw [computed, target]
  have load : State.loadNow { u with servo :=
      { countStale s.servo with target := targetAt s u.program.setpoint } } = s.loadNow := rfl
  rw [load]
  simp only [settings]
  exact congrArg (fun v => loopReported { u with settings := s.settings, servo := v })
    (loopStages_eq_loopAfter h (targetAt s u.program.setpoint) s.servo.unloadSetpoint)

/-- The loop's reports change nothing where both conditions stand as they were (R53). -/
theorem loopReported_of_same {u : State} (hf : (u.entry .following).condition = followingCondition u.settings u.servo)
    (hv : (u.entry .valveSat).condition = valveSatCondition u.settings u.servo) : loopReported u = u := by
  have followed : report .following (followingCondition u.settings u.servo) u = u := reportWith_same hf
  rw [loopReported, followed]
  exact reportWith_same hv

/-- A report that brings no fresh rise of an EDGE entry is stored alone (R6). -/
theorem reportWith_edge_stored {c : Cause} {s : State} (exit v : Bool) (hm : modeOf s.settings c = .edge)
    (hn : ¬(c = .following ∧ s.posture = .unload))
    (h : (s.entry c).condition = true ∨ (s.entry c).latched = true ∨ v = false) :
    reportWith exit c v s = withCondition c v s := by
  cases v with
  | false => exact reportWith_fall_edge hm
  | true =>
    obtain hc | hl | hv := h
    · rw [reportWith_same hc, withCondition_held c true s hc]
    · exact reportWith_rise_latched hl hn
    · cases hv

/-! ### The standing program -/

/-- The state after stages 1 to 8 while the program stands, before their reports. -/
def standingLooped (s : State) : State :=
  { s with servo := loopAfter s (targetAt s s.program.setpoint), program := standing s
           timers := { s.timers with control := 1000 } }

theorem controlPeriod_of_standing {s : State} (hp : ProgramStands s) (h : loadFresh s) :
    controlPeriod s = loopReported (standingLooped s) := by
  have before : beforeLoop s =
      { s with servo := countStale s.servo, program := standing s, timers := { s.timers with control := 1000 } } := by
    rw [beforeLoop, staleStage_of_fresh (s := rearmControl s) h, programExpiry, if_neg]
    · rfl
    · rintro ⟨run, paced, starved⟩
      obtain hold | ⟨-, flag⟩ := hp
      · exact absurd (hold.symm.trans run) (by simp)
      · obtain flag | flag := flag
        · exact absurd (flag.symm.trans paced) (by simp)
        · exact absurd (flag.symm.trans starved) (by simp)
  exact controlPeriod_of_before h before (by obtain hp | hp := hp; exacts [.inr hp, .inl hp.1]) rfl rfl rfl

theorem enterHold_outOfRun (c : Cause) (s : State) : (enterHold c s).program = outOfRun s s.program := by
  unfold enterHold outOfRun
  rw [changePosture_program, pauseProgram_eq]
  simp

theorem enterUnload_outOfRun (c : Cause) (s : State) : (enterUnload c s).program = outOfRun s s.program := by
  have left : (enterUnload c s).program = (changePosture .unload (some c) none (writeUnloadRecord c s)).program := rfl
  rw [left, changePosture_program, pauseProgram_eq]
  simp [outOfRun]

/-! ### VALVE_SAT's report in UNLOAD (R17) -/

/-- Of what the loop's obligations speak a report of VALVE_SAT in UNLOAD adds its pair to the later causes, where a
clear entry of class UNLOAD rises (R17). -/
theorem report_valveSat_in_unload {s : State} (v : Bool) (hp : s.posture = .unload) (h0 : s.line.holdTime = 0)
    (hc : s.settings.valveSatClass = .hold ∨ s.settings.valveSatClass = .unload) {t : State}
    (ht : t = report .valveSat v s) : t.posture = .unload ∧ t.servo = s.servo ∧ t.program = s.program ∧
      (∀ d, d ≠ .valveSat → t.entry d = s.entry d) ∧
      t.unloadRecord = if v = true ∧ (s.entry .valveSat).condition = false ∧ (s.entry .valveSat).latched = false ∧
        s.settings.valveSatClass = .unload then s.unloadRecord.map (listed .valveSat) else s.unloadRecord := by
  subst ht
  have others : ∀ d, d ≠ Cause.valveSat →
      (latchMarked .valveSat (withCondition .valveSat true s)).entry d = s.entry d := fun d hd => by
    rw [latchMarked_entry, if_neg hd, withCondition_entry, if_neg hd]
  by_cases stored : (s.entry .valveSat).condition = true ∨ (s.entry .valveSat).latched = true ∨ v = false
  · rw [report, reportWith_edge_stored true v rfl (by simp) stored, if_neg]
    · exact ⟨hp, rfl, rfl, (withCondition_onlyEntry _ _ _).others, rfl⟩
    · rintro ⟨hv, hcond, hl, -⟩
      simp [hv, hcond, hl] at stored
  · simp only [not_or, Bool.not_eq_true, Bool.not_eq_false] at stored
    obtain ⟨hcond, hl, rfl⟩ := stored
    rw [report, reportWith_rise hcond hl]
    obtain hc | hc := hc
    · have latched : latch .valveSat (withCondition .valveSat true s) =
          latchMarked .valveSat (withCondition .valveSat true s) := by
        have hcls : classOf (withCondition .valveSat true s).settings .valveSat = .hold := hc
        rw [latch_eq, if_pos hcls, hcls, postureOnLatch, latchMarked_posture, withCondition_posture, hp]
        exact reviseHoldDemand_of_none _ (by simp [hp]) (by rw [latchMarked_line rfl]; exact h0)
      rw [latched, if_neg (by simp [hc])]
      exact ⟨by simpa using hp, by simp, by simp, others, by simp⟩
    · rw [latch_unload_in_unload (c := .valveSat) (s := withCondition .valveSat true s) hc hp (by simp),
        if_pos ⟨rfl, hcond, hl, hc⟩]
      refine ⟨by simpa using hp, by simp, by simp, fun d hd => (appendLater_entry _ _ d).trans (others d hd), ?_⟩
      rw [appendLater_unloadRecord]
      simp only [latchMarked_unloadRecord, withCondition_unloadRecord]
      rfl

/-! ### The two reports while the program stands -/

/-- FOLLOWING's rise from a clear entry begins the unload (R16, R60). -/
theorem report_following_enters {v : State} (hp : v.posture = .run ∨ v.posture = .hold)
    (hc : (v.entry .following).condition = false) (hl : (v.entry .following).latched = false) :
    report .following true v = enterUnload .following (latchMarked .following (withCondition .following true v)) := by
  rw [report, reportWith_rise hc hl, latch_unload_enters (s := withCondition .following true v) rfl hp]

/-- Both reports where FOLLOWING rises from a clear entry (R17, R59, R60). -/
theorem loopReported_of_following {v : State} (hp : v.posture = .run ∨ v.posture = .hold)
    (hcls : v.settings.valveSatClass = .hold ∨ v.settings.valveSatClass = .unload)
    (hc : (v.entry .following).condition = false) (hl : (v.entry .following).latched = false)
    (hf : followingCondition v.settings v.servo = true) :
    (loopReported v).posture = .unload ∧ ((loopReported v).entry .following).condition = true ∧
      ((loopReported v).entry .following).latched = true ∧
      (loopReported v).servo =
        { v.servo with unloadSetpoint := v.servo.target, settle := .notStarted, settleCount := 0 } ∧
      (loopReported v).program = outOfRun v v.program ∧
      (loopReported v).unloadRecord = some ⟨.following, v.posture, v.time, v.servo.target, v.loadNow,
        if v.settings.valveSatLimit ≤ v.servo.satCount ∧ (v.entry .valveSat).condition = false ∧
          (v.entry .valveSat).latched = false ∧ v.settings.valveSatClass = .unload then [.valveSat] else [],
        0, .pending⟩ := by
  let m := latchMarked .following (withCondition .following true v)
  have valve : m.entry .valveSat = v.entry .valveSat := by
    rw [latchMarked_entry, if_neg (by simp), withCondition_entry, if_neg (by simp)]
  have follows : m.entry .following = { v.entry .following with
      condition := true, latched := true, ackPending := false
      snapshot := some (snapshotOf (withCondition .following true v)) } := by
    rw [latchMarked_entry, if_pos rfl, withCondition_entry, if_pos rfl]
  have reported : loopReported v =
      report .valveSat (valveSatCondition v.settings v.servo) (enterUnload .following m) := by
    rw [loopReported, hf, report_following_enters hp hc hl]
    simp only [enterUnload_settings, enterUnload_servo, latchMarked_settings, latchMarked_servo,
      withCondition_settings, withCondition_servo]
    rfl
  obtain ⟨posture, servo, program, others, record⟩ := report_valveSat_in_unload
    (valveSatCondition v.settings v.servo) (s := enterUnload .following m) rfl (by simp) (by simpa [m] using hcls)
    reported
  refine ⟨posture, ?_, ?_, ?_, ?_, ?_⟩
  · rw [others _ (by simp), enterUnload_entry, follows]
  · rw [others _ (by simp), enterUnload_entry, follows]
  · rw [servo]; simp [m]
  · rw [program, enterUnload_outOfRun]; simp [m, outOfRun]
  · rw [record, enterUnload_entry, valve]
    simp only [enterUnload_settings, enterUnload_unloadRecord, m, latchMarked_settings, withCondition_settings,
      valveSatCondition, decide_eq_true_eq]
    split <;> simp [listed]

/-- FOLLOWING brings no fresh rise: its condition holds already, its entry is latched, or its count stands below. -/
abbrev NoFollowingRise (v : State) : Prop :=
  (v.entry .following).condition = true ∨ (v.entry .following).latched = true ∨
    followingCondition v.settings v.servo = false

/-- Without a fresh rise of FOLLOWING its condition is stored, and VALVE_SAT is reported (R53). -/
theorem loopReported_of_noFollowing {v : State} (hp : v.posture = .run ∨ v.posture = .hold) (h : NoFollowingRise v) :
    loopReported v = report .valveSat (valveSatCondition v.settings v.servo)
      (withCondition .following (followingCondition v.settings v.servo) v) := by
  have stored : report .following (followingCondition v.settings v.servo) v =
      withCondition .following (followingCondition v.settings v.servo) v :=
    reportWith_edge_stored true _ rfl (fun k => by rw [k.2] at hp; simp at hp) h
  rw [loopReported, stored]
  rfl

/-- VALVE_SAT's rise from a clear entry in RUN or HOLD, by its class (R13, R14, R16, R57). -/
theorem report_valveSat_rises {v : State} (hp : v.posture = .run ∨ v.posture = .hold)
    (hc : (v.entry .valveSat).condition = false) (hl : (v.entry .valveSat).latched = false)
    (hcls : v.settings.valveSatClass = .hold ∨ v.settings.valveSatClass = .unload) {t : State}
    (ht : t = report .valveSat true v) :
    (t.entry .valveSat).condition = true ∧ (t.entry .valveSat).latched = true ∧
      t.program = outOfRun v v.program ∧
      (v.settings.valveSatClass = .hold → t.posture = .hold ∧ t.servo = v.servo ∧
        (v.posture = .hold → t.holdRecord = v.holdRecord.map (fun r => { r with resumeRequired := true })) ∧
        (v.posture = .run → t.holdRecord = some ⟨.valveSat, v.time, v.program.counts, v.loadNow, true⟩)) ∧
      (v.settings.valveSatClass = .unload → t.posture = .unload ∧
        t.servo = { v.servo with unloadSetpoint := v.servo.target, settle := .notStarted, settleCount := 0 } ∧
        t.unloadRecord = some ⟨.valveSat, v.posture, v.time, v.servo.target, v.loadNow, [], 0, .pending⟩) := by
  subst ht
  have entry : (latchMarked .valveSat (withCondition .valveSat true v)).entry .valveSat = { v.entry .valveSat with
      condition := true, latched := true, ackPending := false
      snapshot := some (snapshotOf (withCondition .valveSat true v)) } := by
    rw [latchMarked_entry, if_pos rfl, withCondition_entry, if_pos rfl]
  rw [report, reportWith_rise hc hl]
  obtain hcls | hcls := hcls
  · have hclass : classOf (withCondition .valveSat true v).settings .valveSat = .hold := hcls
    obtain hp | hp := hp
    · rw [latch_hold_in_run hclass hp]
      refine ⟨by simp [entry], by simp [entry], ?_, fun _ => ⟨by simp, by simp, fun k => ?_, fun _ => ?_⟩, fun k => ?_⟩
      · rw [reviseHoldDemand_program, enterHold_outOfRun]; simp [outOfRun]
      · simp [hp] at k
      · simp [State.loadNow]
      · simp [hcls] at k
    · rw [latch_hold_in_hold hclass hp (by simp)]
      refine ⟨by simp [entry], by simp [entry], ?_, fun _ => ⟨by simp [hp], by simp, fun _ => ?_, fun k => ?_⟩,
        fun k => ?_⟩
      · simp [outOfRun, hp]
      · simp [requireResume]
      · simp [hp] at k
      · simp [hcls] at k
  · rw [latch_unload_enters (c := .valveSat) (s := withCondition .valveSat true v) hcls hp]
    refine ⟨by simp [entry], by simp [entry], ?_, fun k => ?_, fun _ => ⟨rfl, by simp, by simp⟩⟩
    · rw [enterUnload_outOfRun]; simp [outOfRun]
    · simp [hcls] at k

/-- Settles O33, by what the two reports behind stage 8 make of the loop's values. -/
theorem standingPeriodComputesTheLoop : Obligations.StandingPeriodComputesTheLoop := by
  intro s T loop unloading hp hf hcls hT hloop hunloading
  subst hT hloop hunloading
  have taken : exec .controlPeriodExpiry s = .next (loopReported (standingLooped s)) :=
    congrArg Host.Outcome.next (controlPeriod_of_standing hp hf)
  have posture : (standingLooped s).posture = .run ∨ (standingLooped s).posture = .hold := by
    obtain hp | hp := hp
    exacts [.inr hp, .inl hp.1]
  have noRise : (s.entry .following).condition = true ∨ (s.entry .following).latched = true ∨
      (loopAfter s (targetAt s s.program.setpoint)).followCount < s.settings.followingCount →
      NoFollowingRise (standingLooped s) :=
    Or.imp_right (Or.imp_right fun h => decide_eq_false (Nat.not_le.mpr h))
  refine ⟨fun hfollow hvalve => ?_, fun hc hl hcount => ?_, fun hn hc hl hcount => ?_, fun hn hv => ?_⟩
  · exact ⟨_, taken, loopReported_of_same hfollow hvalve⟩
  · obtain ⟨hposture, condition, latched, servo, program, record⟩ :=
      loopReported_of_following (v := standingLooped s) posture hcls hc hl (decide_eq_true hcount)
    exact ⟨_, taken, hposture, condition, latched, servo, program, record⟩
  · have reported := loopReported_of_noFollowing posture (noRise hn)
    rw [show valveSatCondition (standingLooped s).settings (standingLooped s).servo = true from
      decide_eq_true hcount] at reported
    obtain ⟨condition, latched, program, holds, unloads⟩ := report_valveSat_rises
      (v := withCondition .following (followingCondition (standingLooped s).settings (standingLooped s).servo)
        (standingLooped s)) posture (by rw [withCondition_entry, if_neg (by simp)]; exact hc)
      (by rw [withCondition_entry, if_neg (by simp)]; exact hl) hcls reported
    exact ⟨_, taken, condition, latched, program, holds, unloads⟩
  · have reported := loopReported_of_noFollowing posture (noRise hn)
    have stored : loopReported (standingLooped s) =
        withCondition .valveSat (valveSatCondition (standingLooped s).settings (standingLooped s).servo)
          (withCondition .following (followingCondition (standingLooped s).settings (standingLooped s).servo)
            (standingLooped s)) := by
      rw [reported]
      refine reportWith_edge_stored true _ rfl (by simp) ?_
      rw [withCondition_entry, if_neg (by simp)]
      exact hv.imp_right (Or.imp_right fun h => decide_eq_false (Nat.not_le.mpr h))
    refine ⟨_, taken, ?_⟩
    rw [stored]
    refine ⟨rfl, ?_, ?_, fun d hd hd' => ?_⟩
    · rw [withCondition_entry, if_neg (by simp), withCondition_entry, if_pos rfl]; rfl
    · rw [withCondition_entry, if_pos rfl, withCondition_entry, if_neg (by simp)]; rfl
    · rw [withCondition_entry, if_neg hd', withCondition_entry, if_neg hd]; rfl

end Sys2Proof.LoadProgram

/-! ## The control period in RUN (R34 to R43) -/

namespace Sys2Proof.LoadProgram

open Sys2Proof Sys2Proof.Machine Sys2Proof.Laws Sys2Proof.Safety Sys2Proof.Claims Sys2Proof.Postures

/-! ### Notices that stand in the queue (R190) -/

/-- Entries at the head of the queue, the OVERFLOW's place excepted, stand through every notice handed over. -/
theorem prefix_queueNotice {l q : List NoticeEntry} (hl : l.length ≤ 31) (h : l <+: q) (t : BitVec 32) (n : Notice) :
    l <+: queueNotice t n q := by
  obtain ⟨-, e⟩ | ⟨-, e⟩ | ⟨full, e⟩ := queueNotice_cases t n q <;> rw [e]
  · exact h.trans (List.prefix_append _ _)
  · exact h.trans (List.prefix_append _ _)
  · unfold bumpOverflow
    split
    · have kept : l <+: q.dropLast := by
        rw [List.dropLast_eq_take]
        exact List.prefix_take_iff.mpr ⟨h, by omega⟩
      exact kept.trans (List.prefix_append _ _)
    · exact h

theorem Pieces.keepsFront {b : Bool} {s t : State} (m : Pieces b s t) {l : List NoticeEntry} (hl : l.length ≤ 31)
    (h : l <+: s.link.notices) : l <+: t.link.notices :=
  m.notices (P := fun q => l <+: q) (fun time n _ k => prefix_queueNotice hl k time n) h

/-! ### An EDGE entry of class HOLD that holds the station (R13, R14) -/

/-- The station stands in HOLD on entry c, latched by a pulse in RUN. -/
structure HeldBy (c : Cause) (s t : State) : Prop where
  posture : t.posture = .hold
  latched : (t.entry c).latched = true
  condition : (t.entry c).condition = false
  others : ∀ d, d ≠ c → t.entry d = s.entry d
  program : t.program = pauseProgram s.program
  servo : t.servo = s.servo
  settings : t.settings = s.settings
  peers : t.peers = s.peers
  strain : t.strain = s.strain
  holdRecord : t.holdRecord = some ⟨c, s.time, s.program.counts, s.loadNow, true⟩
  unloadRecord : t.unloadRecord = s.unloadRecord

theorem pulse_holds {c : Cause} {s : State} (hm : modeOf s.settings c = .edge) (hcls : classOf s.settings c = .hold)
    (hn : c ≠ .peerHold) (hp : s.posture = .run) (hc : (s.entry c).condition = false)
    (hl : (s.entry c).latched = false) : HeldBy c s (pulse c s) := by
  have held : pulse c s = withCondition c false
      (reviseHoldDemand c (enterHold c (latchMarked c (withCondition c true s)))) := by
    rw [pulse_of_clear hm hc hl, latch_hold_in_run (s := withCondition c true s) hcls hp]
  have k := pulse_keeps c s
  refine ⟨?_, ?_, ?_, fun d hd => ?_, ?_, ?_, k.settings, ?_, k.strain, ?_, ?_⟩ <;> rw [held]
  · simp
  · simp [withCondition_entry, latchMarked_entry]
  · simp [withCondition_entry]
  · simp [withCondition_entry, latchMarked_entry, hd]
  · simp [enterHold_program_in_run, hp]
  · simp
  · simp
  · simp [hn, Program.counts]
  · simp

theorem pulse_prefix {c : Cause} {s : State} {l : List NoticeEntry} (hl : l.length ≤ 31) (h : l <+: s.link.notices) :
    l <+: (pulse c s).link.notices :=
  (report_pieces c false _).keepsFront hl ((report_pieces c true s).keepsFront hl h)

/-! ### A segment that leaves (R34, R38, R42, R43) -/

/-- A segment taken into flight has begun no cycle, so that nothing of it is interrupted (R28, R40). -/
theorem interrupted_firstState (setpoint : Int) (seg : Segment) :
    interrupted (firstState setpoint seg) = firstState setpoint seg := by
  unfold firstState
  cases seg.body <;> rfl

theorem interrupted_head (setpoint : Int) (rest : List Segment) :
    (rest.head?.map (firstState setpoint)).map interrupted = rest.head?.map (firstState setpoint) := by
  cases rest with
  | nil => rfl
  | cons seg _ => simp [interrupted_firstState]

/-- The program unit once its head has left and the next segment flies (R34). -/
def nextInFlight (g : Segment) (rest : List Segment) (p : Program) : Program :=
  { p with
    queue := rest, flight := rest.head?.map (firstState p.setpoint), lastCompleted := g.seq
    halfStep := p.halfStep && rest.isEmpty }

theorem retireThenTake_eq {g : Segment} {rest : List Segment} {x : State} (n : Notice) (hp : x.posture = .run)
    (hq : x.program.queue = g :: rest) : takeIntoFlight (pushNotice n (retireHead g x)) =
      { x with
        program := nextInFlight g rest x.program
        link := { x.link with notices := queueNotice x.time n x.link.notices } } := by
  have retired : retireHead g x =
      { x with program := { x.program with queue := rest, flight := none, lastCompleted := g.seq } } := by
    simp [retireHead, hq]
  rw [retired]
  cases rest with
  | nil => simp [takeIntoFlight, pushNotice, nextInFlight, hp]
  | cons seg tail => simp [takeIntoFlight, pushNotice, nextInFlight, hp, freshGenerator_eq_firstState]

/-- A segment without inspect completes (R42): the next flies, or the station starves. -/
theorem completeSegment_plain {g : Segment} {rest : List Segment} {x : State} (hi : g.inspect = false)
    (hp : x.posture = .run) (hq : x.program.queue = g :: rest) (hs : x.program.starved = false) :
    completeSegment g x = { x with
      program := { nextInFlight g rest x.program with starved := rest.isEmpty }
      link := { x.link with
        notices :=
          if rest.isEmpty then
            queueNotice x.time (.starved g.seq)
              (queueNotice x.time (.segmentDone g.seq g.body.kind false) x.link.notices)
          else queueNotice x.time (.segmentDone g.seq g.body.kind false) x.link.notices } } := by
  unfold completeSegment
  rw [retireThenTake_eq _ hp hq]
  cases rest with
  | nil => simp [hi, starvedTest, hp, nextInFlight, hs, pushNotice]
  | cons seg tail => simp [hi, starvedTest, nextInFlight, hs]

/-- A segment with inspect completes (R42): the next flies, and INSPECT holds the station. -/
theorem completeSegment_inspected {g : Segment} {rest : List Segment} {x : State} (hi : g.inspect = true)
    (hp : x.posture = .run) (hq : x.program.queue = g :: rest) (hr : InspectReady x) :
    ∃ n : State, n = { x with
        program := nextInFlight g rest x.program
        link := { x.link with
          notices := queueNotice x.time (.segmentDone g.seq g.body.kind false) x.link.notices } } ∧
      completeSegment g x = pulse .inspect n ∧ HeldBy .inspect n (pulse .inspect n) := by
  refine ⟨_, rfl, ?_, pulse_holds rfl rfl (by simp) hp hr.1 hr.2⟩
  have held := pulse_holds (c := .inspect)
    (s := takeIntoFlight (pushNotice (.segmentDone g.seq g.body.kind false) (retireHead g x))) rfl rfl (by simp)
    (by rw [retireThenTake_eq _ hp hq]; exact hp) (by rw [retireThenTake_eq _ hp hq]; exact hr.1)
    (by rw [retireThenTake_eq _ hp hq]; exact hr.2)
  unfold completeSegment
  simp only [hi, if_true]
  rw [starvedTest_of_other (by rw [held.posture]; simp), retireThenTake_eq _ hp hq]

/-! ### The period in RUN -/

/-- The program unit steps the head in flight in RUN, neither paced nor starved (R35). -/
theorem programExpiry_of_advancing {u : State} {seg : Segment} {rest : List Segment} {w : Generator}
    (hp : u.posture = .run) (paced : u.program.paced = false) (starved : u.program.starved = false)
    (hq : u.program.queue = seg :: rest) (hf : u.program.flight = some w) :
    programExpiry u = stepSegment seg w (derateProgram u) := by
  have queue : (derateProgram u).program.queue = seg :: rest := hq
  have flight : (derateProgram u).program.flight = some w := hf
  unfold programExpiry
  simp only
  rw [if_pos (by exact ⟨hp, paced, starved⟩), queue, flight]

/-- A station in RUN with a fresh load, a quiet loop, and its head segment in flight and neither paced nor starved. -/
structure Advancing (s : State) (g : Segment) (rest : List Segment) (w : Generator) : Prop where
  posture : s.posture = .run
  fresh : loadFresh s
  quiet : loopQuiet s
  paced : s.program.paced = false
  starved : s.program.starved = false
  queue : s.program.queue = g :: rest
  flight : s.program.flight = some w

/-- The state after stage 1 of an advancing period, with the program unit at a setpoint, a generator state and a
half-step marker. -/
def reached (s : State) (setpoint : Int) (w : Option Generator) (half : Bool) : State :=
  { s with
    servo := countStale s.servo, timers := { s.timers with control := 1000 }
    program := { s.program with
      setpoint := setpoint, flight := w, derated := s.strain.derateDemand, halfStep := half } }

/-- The state in which the segment in flight is stepped. -/
def stepped (s : State) : State :=
  reached s s.program.setpoint s.program.flight (s.program.halfStep && s.strain.derateDemand)

section
variable {s : State} {g : Segment} {rest : List Segment} {w : Generator}

theorem Advancing.beforeLoop (h : Advancing s g rest w) : beforeLoop s = stepSegment g w (stepped s) := by
  rw [Machine.beforeLoop, staleStage_of_fresh (s := rearmControl s) h.fresh]
  exact programExpiry_of_advancing (u := { rearmControl s with servo := countStale s.servo }) h.posture h.paced
    h.starved h.queue h.flight

/-- What stages 3 to 8 read, as the program unit's work leaves it. -/
structure LoopUntouched (s u : State) : Prop where
  posture : u.posture = .run ∨ u.posture = .hold
  servo : u.servo = countStale s.servo
  settings : u.settings = s.settings
  peers : u.peers = s.peers
  following : (u.entry .following).condition = (s.entry .following).condition
  valveSat : (u.entry .valveSat).condition = (s.entry .valveSat).condition

/-- A quiet loop works its stages on the setpoint reached and reports nothing (R53, R54). -/
theorem Advancing.controlPeriod (h : Advancing s g rest w) {u : State} (hu : stepSegment g w (stepped s) = u)
    (k : LoopUntouched s u) :
    controlPeriod s = { u with servo := loopAfter s (targetAt s u.program.setpoint) } := by
  rw [controlPeriod_of_before h.fresh (h.beforeLoop.trans hu) k.posture k.servo k.settings k.peers]
  obtain ⟨hf, hfc, hv, hvc⟩ := h.quiet
  obtain ⟨follows, sats⟩ := loopAfter_counts s (targetAt s u.program.setpoint)
  refine loopReported_of_same ?_ ?_
  · refine (k.following.trans hf).trans (decide_eq_false (Nat.not_le.mpr ?_)).symm
    rw [k.settings]
    exact Nat.lt_of_le_of_lt follows hfc
  · refine (k.valveSat.trans hv).trans (decide_eq_false (Nat.not_le.mpr ?_)).symm
    rw [k.settings]
    exact Nat.lt_of_le_of_lt sats hvc

/-- A step of the generator alone (R36 to R39). -/
theorem Advancing.steps (h : Advancing s g rest w) {setpoint : Int} {v : Generator} {half : Bool} {strain : Strain}
    (hu : stepSegment g w (stepped s) = { reached s setpoint (some v) half with strain := strain }) :
    Steps s setpoint v half strain := by
  have period := h.controlPeriod hu ⟨.inl h.posture, rfl, rfl, rfl, rfl, rfl⟩
  exact ⟨_, congrArg Host.Outcome.next period, rfl, rfl, rfl⟩

/-- A completion without inspect at the setpoint reached (R42, R43). -/
theorem Advancing.completes (h : Advancing s g rest w) (hi : g.inspect = false) {setpoint : Int} {v : Option Generator}
    {half : Bool} (hu : stepSegment g w (stepped s) = completeSegment g (reached s setpoint v half)) :
    Completes s g rest setpoint := by
  have done := completeSegment_plain (x := reached s setpoint v half) hi h.posture h.queue h.starved
  have period := h.controlPeriod (hu.trans done) ⟨.inl h.posture, rfl, rfl, rfl, rfl, rfl⟩
  refine ⟨_, congrArg Host.Outcome.next period, rfl, rfl, fun few => ?_, rfl⟩
  have first := queueNotice_short (q := s.link.notices) (by omega) s.time (.segmentDone g.seq g.body.kind false)
  show (if rest.isEmpty then queueNotice s.time (.starved g.seq) (queueNotice s.time _ s.link.notices)
    else queueNotice s.time _ s.link.notices) = _
  rw [first]
  cases rest with
  | nil => exact (queueNotice_short (by simp; omega) _ _).trans (by simp)
  | cons _ _ => rfl

/-- A completion with inspect at the setpoint reached (R42). -/
theorem Advancing.completesHeld (h : Advancing s g rest w) (hi : g.inspect = true) (hr : InspectReady s)
    {setpoint : Int} {v : Option Generator} {half : Bool}
    (hu : stepSegment g w (stepped s) = completeSegment g (reached s setpoint v half)) :
    CompletesHeld s g rest setpoint := by
  obtain ⟨n, hn, done, held⟩ :=
    completeSegment_inspected (x := reached s setpoint v half) hi h.posture h.queue hr
  have k := pulse_keeps .inspect n
  have untouched : LoopUntouched s (pulse .inspect n) := by
    refine ⟨.inr held.posture, ?_, ?_, ?_, ?_, ?_⟩
    · rw [held.servo, hn]; rfl
    · rw [held.settings, hn]; rfl
    · rw [held.peers, hn]; rfl
    · rw [held.others _ (by simp), hn]; rfl
    · rw [held.others _ (by simp), hn]; rfl
  have setpointReached : (pulse .inspect n).program.setpoint = setpoint := by rw [k.setpoint, hn]; rfl
  have period := h.controlPeriod (hu.trans done) untouched
  refine ⟨_, congrArg Host.Outcome.next period, held.posture, held.latched, held.condition, fun d hd => ?_, ?_, ?_,
    setpointReached, ?_, ?_, ?_, ?_, ?_, fun few => ?_⟩
  · exact (held.others d hd).trans (by rw [hn]; rfl)
  · exact k.queue.trans (by rw [hn]; rfl)
  · exact k.lastCompleted.trans (by rw [hn]; rfl)
  · show (pulse .inspect n).program.flight = _
    rw [held.program, pauseProgram_eq, hn]
    exact interrupted_head setpoint rest
  · show (pulse .inspect n).program.starved = _
    rw [held.program, pauseProgram_eq]
  · rw [setpointReached]
  · exact held.holdRecord.trans (by rw [hn]; rfl)
  · exact held.unloadRecord.trans (by rw [hn]; rfl)
  · have stands : s.link.notices ++ [⟨s.time, .segmentDone g.seq g.body.kind false⟩] <+:
        (pulse .inspect n).link.notices := by
      refine pulse_prefix (by simp; omega) ?_
      rw [hn]
      exact (queueNotice_short (q := s.link.notices) (by omega) s.time _) ▸ List.prefix_rfl
    have taken := List.prefix_iff_eq_take.mp stands
    rw [List.length_append] at taken
    exact taken.symm

/-- A CYCLE skipped, and PROGRAM's HOLD (R14, R38). -/
theorem Advancing.skips (h : Advancing s g rest w) (hc : (s.entry .program).condition = false)
    (hl : (s.entry .program).latched = false) (hu : stepSegment g w (stepped s) = skipSegment g (stepped s)) :
    Skips s g rest := by
  let retired : State := pushNotice (.segmentDone g.seq g.body.kind true) (retireHead g (stepped s))
  have held : HeldBy .program retired (pulse .program retired) :=
    pulse_holds rfl rfl (by simp) h.posture hc hl
  have k := (pulse_keeps .program retired).trans (takeIntoFlight_keeps (pulse .program retired))
  have flight : (pulse .program retired).program.flight = none := by
    rw [held.program, pauseProgram_eq]; rfl
  have queue : (pulse .program retired).program.queue = rest := by
    rw [(pulse_keeps .program retired).queue]
    show s.program.queue.tail = rest
    rw [h.queue]; rfl
  have others : ∀ d, (takeIntoFlight (pulse .program retired)).entry d = (pulse .program retired).entry d := fun d => by
    rw [takeIntoFlight_eq]; rfl
  have untouched : LoopUntouched s (takeIntoFlight (pulse .program retired)) := by
    refine ⟨.inr ?_, ?_, k.settings, ?_, ?_, ?_⟩
    · rw [takeIntoFlight_posture]; exact held.posture
    · rw [takeIntoFlight_eq]; exact held.servo
    · rw [takeIntoFlight_eq]; exact held.peers
    · rw [others, held.others _ (by simp)]; rfl
    · rw [others, held.others _ (by simp)]; rfl
  have period := h.controlPeriod hu untouched
  have setpoint : (takeIntoFlight (pulse .program retired)).program.setpoint = s.program.setpoint := k.setpoint
  refine ⟨_, congrArg Host.Outcome.next period, ?_, ?_, ?_, fun d hd => ?_, ?_, k.lastCompleted, setpoint, ?_, ?_, ?_,
    k.strain, ?_, ?_⟩
  · exact (takeIntoFlight_posture _).trans held.posture
  · exact (congrArg CauseEntry.latched (others .program)).trans held.latched
  · exact (congrArg CauseEntry.condition (others .program)).trans held.condition
  · exact (others d).trans (held.others d hd)
  · exact (takeIntoFlight_queue _).trans queue
  · refine (takeIntoFlight_flight (.inr held.posture) flight).trans ?_
    rw [queue, (pulse_keeps .program retired).setpoint]; rfl
  · show loopAfter s (targetAt s (takeIntoFlight (pulse .program retired)).program.setpoint) = _
    rw [setpoint]
  · exact (takeIntoFlight_holdRecord _).trans held.holdRecord
  · exact untouched.peers
  · exact (takeIntoFlight_unloadRecord _).trans held.unloadRecord

end

end Sys2Proof.LoadProgram

namespace Sys2Proof.LoadProgram

open Sys2Proof Sys2Proof.Machine Sys2Proof.Laws Sys2Proof.Safety Sys2Proof.Claims Sys2Proof.Postures

/-! ### What each kind of segment makes of its step (R36 to R39) -/

section
variable {s : State} {g : Segment} {rest : List Segment} {w : Generator}

theorem stepSegment_ramp {target start : Int} {rate : Nat} (hb : g.body = .ramp target rate) (hw : w = .ramp start)
    (x : State) : stepSegment g w x = stepRamp g target rate x := by
  unfold stepSegment
  rw [hb, hw]

theorem stepSegment_dwell {duration elapsed : Nat} (hb : g.body = .dwell duration) (hw : w = .dwell elapsed)
    (x : State) : stepSegment g w x = stepDwell g duration elapsed x := by
  unfold stepSegment
  rw [hb, hw]

theorem stepSegment_begin {mean : Int} {amplitude quarter count p n : Nat} {watch m : Bool}
    (hb : g.body = .cycle mean amplitude quarter count watch) (hw : w = .cycle false p n m) (x : State) :
    stepSegment g w x = beginCycle g mean watch x := by
  unfold stepSegment
  rw [hb, hw]

theorem stepSegment_cycle {mean : Int} {amplitude quarter count p n : Nat} {watch m : Bool}
    (hb : g.body = .cycle mean amplitude quarter count watch) (hw : w = .cycle true p n m) (x : State) :
    stepSegment g w x = stepCycle g mean amplitude quarter count watch p n m x := by
  unfold stepSegment
  rw [hb, hw]

theorem rampToward_lands {setpoint goal : Int} {step : Nat} (h : (goal - setpoint).natAbs ≤ step) :
    rampToward setpoint goal step = (goal, true) := if_pos h

theorem rampToward_moves {setpoint goal : Int} {step : Nat} (h : step < (goal - setpoint).natAbs) :
    rampToward setpoint goal step =
      (if setpoint < goal then setpoint + step else setpoint - step, false) := by
  rw [rampToward, if_neg (Nat.not_le.mpr h)]
  split <;> rfl

/-- The RAMP of O35: its step while short of the target, and its completion there. -/
theorem Advancing.ramp (h : Advancing s g rest w) {target start : Int} {rate step : Nat}
    (hb : g.body = .ramp target rate) (hw : w = .ramp start)
    (hstep : step = if s.strain.derateDemand then max (rate / 2) 1 else rate) :
    (step < (target * 256 - s.program.setpoint).natAbs →
      Steps s (if s.program.setpoint < target * 256 then s.program.setpoint + step else s.program.setpoint - step)
        w (s.program.halfStep && s.strain.derateDemand) s.strain) ∧
    ((target * 256 - s.program.setpoint).natAbs ≤ step →
      stepSegment g w (stepped s) = completeSegment g
        (reached s (target * 256) s.program.flight (s.program.halfStep && s.strain.derateDemand))) := by
  have ramps : stepSegment g w (stepped s) = stepRamp g target rate (stepped s) := stepSegment_ramp hb hw _
  have force : rampStep (stepped s).program.derated rate = step := hstep.symm
  refine ⟨fun far => h.steps ?_, fun near => ?_⟩
  · rw [ramps, stepRamp, force, rampToward_moves (setpoint := (stepped s).program.setpoint) far, ← h.flight]
    rfl
  · rw [ramps, stepRamp, force, rampToward_lands (setpoint := (stepped s).program.setpoint) near]
    rfl

/-- The DWELL of O35. -/
theorem Advancing.dwell (h : Advancing s g rest w) {duration elapsed : Nat} (hb : g.body = .dwell duration)
    (hw : w = .dwell elapsed) :
    (elapsed + 1 < duration → Steps s s.program.setpoint (.dwell (elapsed + 1))
      (s.program.halfStep && s.strain.derateDemand) s.strain) ∧
    (duration ≤ elapsed + 1 → stepSegment g w (stepped s) = completeSegment g
      (reached s s.program.setpoint (some (.dwell (elapsed + 1))) (s.program.halfStep && s.strain.derateDemand))) := by
  have dwells : stepSegment g w (stepped s) = stepDwell g duration elapsed (stepped s) := stepSegment_dwell hb hw _
  refine ⟨fun more => h.steps ?_, fun done => ?_⟩
  · rw [dwells]; exact if_neg (Nat.not_le.mpr more)
  · rw [dwells]; exact if_pos done

/-- Records all empty bring no DRIFT (R154, R160). -/
theorem driftCondition_of_fresh (st : Settings) (u : Strain) :
    driftCondition st { u with drift := Vector.replicate 32 {} } = false := by
  simp [driftCondition]

/-- The begin step of a CYCLE, the jump inside the tolerance (R38, R154). -/
theorem Advancing.begins (h : Advancing s g rest w) {mean : Int} {amplitude quarter count p n : Nat} {watch m : Bool}
    (hb : g.body = .cycle mean amplitude quarter count watch) (hw : w = .cycle false p n m)
    (near : (s.program.counts - mean).natAbs ≤ s.settings.jumpTolerance) :
    (watch = false → Steps s (mean * 256) (.cycle true 0 0 false) (s.program.halfStep && s.strain.derateDemand)
      { s.strain with watched := none }) ∧
    (watch = true → (s.entry .drift).condition = false →
      Steps s (mean * 256) (.cycle true 0 0 false) (s.program.halfStep && s.strain.derateDemand)
        { s.strain with watched := some g.seq, drift := Vector.replicate 32 {}, lastClose := none }) := by
  have begun : stepSegment g w (stepped s) = cycleBegin g.seq watch
      (setFlight (.cycle true 0 0 false) (setSetpoint (mean * 256) (stepped s))) := by
    rw [stepSegment_begin hb hw]
    exact if_neg (Nat.not_lt.mpr near)
  refine ⟨fun hn => h.steps ?_, fun hy hd => h.steps ?_⟩
  · rw [begun, hn]; rfl
  · rw [begun, hy]
    exact reportWith_same (hd.trans (driftCondition_of_fresh _ { s.strain with
      watched := some g.seq, lastClose := none }).symm)

/-- The last phase of an unwatched cycle: the next one begins, or the last one's segment completes (R39). -/
theorem stepCycle_closes {mean : Int} {amplitude quarter count p n : Nat} {m : Bool} (x : State)
    (hstep : x.program.derated = false ∨ x.program.halfStep = true) (last : 4 * quarter ≤ p + 1) :
    stepCycle g mean amplitude quarter count false p n m x =
      let closed := setFlight (.cycle true 0 (n + 1) false)
        (setSetpoint (mean * 256) { x with program := { x.program with halfStep := false } })
      if count ≤ n + 1 then completeSegment g closed else closed := by
  have full : ¬((x.program.derated && !x.program.halfStep) = true) := by
    obtain hstep | hstep := hstep <;> simp [hstep]
  have wraps : nextPhase quarter p = 0 := if_neg (Nat.not_lt.mpr last)
  rw [stepCycle, if_neg full, wraps]
  rfl

/-- The later steps of a CYCLE (R39, R41). -/
theorem Advancing.cycles (h : Advancing s g rest w) {mean : Int} {amplitude quarter count p n : Nat} {watch m : Bool}
    (hb : g.body = .cycle mean amplitude quarter count watch) (hw : w = .cycle true p n m) :
    (s.strain.derateDemand = true → s.program.halfStep = false → Steps s s.program.setpoint w true s.strain) ∧
    (s.strain.derateDemand = false ∨ s.program.halfStep = true →
      (p + 1 < 4 * quarter →
        Steps s ((mean + triangle amplitude quarter (p + 1)) * 256) (.cycle true (p + 1) n m) false s.strain) ∧
      (4 * quarter ≤ p + 1 → watch = false →
        (n + 1 < count → Steps s (mean * 256) (.cycle true 0 (n + 1) false) false s.strain) ∧
        (count ≤ n + 1 → stepSegment g w (stepped s) = completeSegment g
          (reached s (mean * 256) (some (.cycle true 0 (n + 1) false)) false)))) := by
  have cycles : stepSegment g w (stepped s) = stepCycle g mean amplitude quarter count watch p n m (stepped s) :=
    stepSegment_cycle hb hw _
  refine ⟨fun derated half => h.steps ?_, fun full => ?_⟩
  · rw [cycles, stepCycle, if_pos (by simp [stepped, reached, derated, half]), ← h.flight]
    rfl
  · have full : (stepped s).program.derated = false ∨ (stepped s).program.halfStep = true := by
      cases hd : s.strain.derateDemand with
      | false => exact .inl hd
      | true => right; simpa [stepped, reached, hd] using full
    refine ⟨fun inside => h.steps ?_, fun last hn => ?_⟩
    · have next : nextPhase quarter p = p + 1 := if_pos inside
      rw [cycles, stepCycle, if_neg (by obtain full | full := full <;> simp [full]), next]
      exact if_neg (Nat.succ_ne_zero p)
    · rw [hn] at cycles
      rw [cycles, stepCycle_closes _ full last]
      refine ⟨fun more => h.steps ?_, fun done => if_pos done⟩
      rw [cycles, stepCycle_closes _ full last]
      exact if_neg (Nat.not_le.mpr more)

end

/-- Settles O35, kind by kind. -/
theorem runPeriodStepsTheSegmentInFlight : Obligations.RunPeriodStepsTheSegmentInFlight := by
  intro s g rest w half hp hf hq paced starved queue flight hhalf
  subst hhalf
  have h : Advancing s g rest w := ⟨hp, hf, hq, paced, starved, queue, flight⟩
  refine ⟨fun target rate start step hb hw hstep => ?_, fun duration elapsed hb hw => ?_,
    fun mean amplitude quarter count watch p n m hb => ⟨fun hw near => h.begins hb hw near,
      fun hw jump hc hl => h.skips hc hl ?_, fun hw => ?_⟩⟩
  · obtain ⟨steps, lands⟩ := h.ramp hb hw hstep
    exact ⟨steps, fun near hi => h.completes hi (lands near), fun near hi hr => h.completesHeld hi hr (lands near)⟩
  · obtain ⟨steps, done⟩ := h.dwell hb hw
    exact ⟨steps, fun k hi => h.completes hi (done k), fun k hi hr => h.completesHeld hi hr (done k)⟩
  · rw [stepSegment_begin hb hw]
    exact if_pos jump
  · obtain ⟨halves, full⟩ := h.cycles hb hw
    refine ⟨halves, fun hfull => ⟨(full hfull).1, fun last hn => ?_⟩⟩
    obtain ⟨steps, done⟩ := (full hfull).2 last hn
    exact ⟨steps, fun k hi => h.completes hi (done k), fun k hi hr => h.completesHeld hi hr (done k)⟩

end Sys2Proof.LoadProgram

/-! ## The peers' work at a report and at an own report period (R95 to R108, R117, R118) -/

namespace Sys2Proof.LoadProgram

open Sys2Proof Sys2Proof.Machine Sys2Proof.Laws Sys2Proof.Safety Sys2Proof.Claims Sys2Proof.Postures

/-! ### The line under the posture controller's work -/

/-- Without a break asked for, the posture controller leaves the report slot (R78). -/
theorem Piece.reportSlot {s t : State} (p : Piece false s t) : t.line.reportSlot = s.line.reportSlot := by
  cases p with
  | still k => exact k.traffic.reportSlot
  | runs k => rw [enterRun_line]
  | breaks h => cases h
  | leaves _ _ _ _ _ => rfl
  | notice _ => rfl
  | holdNotice _ => exact shown_settleTx _ _ .report
  | unloadNotice _ => exact shown_settleTx _ _ .report
  | emptied => exact shown_settleTx _ _ .report

theorem Pieces.reportSlot {s t : State} (m : Pieces false s t) : t.line.reportSlot = s.line.reportSlot := by
  induction m with
  | refl => rfl
  | tail _ p ih => exact p.reportSlot.trans ih

/-- A break that is driven runs on (R88). -/
theorem Piece.breaking {s t : State} (p : Piece false s t) (h : Breaking s.line) : Breaking t.line := by
  cases p with
  | still k => rw [Breaking, k.traffic.tx]; exact h
  | runs k => rw [enterRun_line]; exact h
  | breaks h => cases h
  | leaves _ _ _ _ _ => exact h
  | notice _ => exact h
  | holdNotice _ => exact settleTx_breaking _ h
  | unloadNotice _ => exact settleTx_breaking _ h
  | emptied => exact settleTx_breaking _ h

theorem Pieces.breaking {s t : State} (m : Pieces false s t) (h : Breaking s.line) : Breaking t.line := by
  induction m with
  | refl => exact h
  | tail _ p ih => exact p.breaking ih

/-! ### Reports that end in RUN or in HOLD -/

/-- A report that ends in RUN began there and left the program, or is the clear of the last HOLD-class entry (R13,
R15). -/
theorem report_to_run {c : Cause} (hf : c ≠ .following) {v : Bool} {s : State} (h : (report c v s).posture = .run) :
    (s.posture = .run ∧ (report c v s).program = s.program) ∨
    (s.posture = .hold ∧ classOf s.settings c = .hold ∧
      ∀ d, d ≠ c → classOf s.settings d = .hold → (s.entry d).latched = false) := by
  unfold report at h ⊢
  cases v with
  | false =>
    obtain e | e := reportWith_fall_cases true c s <;> rw [e] at h ⊢
    · exact .inl ⟨h, rfl⟩
    · by_cases hp : s.posture = .hold
      · right
        unfold clearEntry at h
        split at h
        next hcls =>
          have hcls : classOf s.settings c = .hold := of_decide_eq_true hcls
          rw [holdExit_posture] at h
          split at h
          next free =>
            refine ⟨hp, hcls, fun d hd hdc => ?_⟩
            have none := (holdLatched_false_iff _).mp free.2.1 d (by simpa using hdc)
            simpa [clearLatch_entry, hd, withCondition_entry] using none
          · simp [hp] at h
        · simp [hp] at h
      · rw [clearEntry_out_of_hold (s := withCondition c false s) _ _ _ hp] at h ⊢
        exact .inl ⟨by simpa using h, by simp⟩
  | true =>
    left
    cases hc : (s.entry c).condition with
    | true => rw [reportWith_same hc] at h ⊢; exact ⟨h, rfl⟩
    | false =>
      cases hl : (s.entry c).latched with
      | true =>
        rw [reportWith_rise_latched hl fun k => hf k.1] at h ⊢
        exact ⟨h, rfl⟩
      | false =>
        rw [reportWith_rise hc hl] at h ⊢
        rw [latch_posture] at h
        obtain ⟨e, -⟩ | ⟨-, -, e⟩ | ⟨-, hp, e⟩ | ⟨-, -, e⟩ | ⟨-, hp, -, e⟩ | ⟨-, -, e⟩ | ⟨-, -, e⟩ :=
          postureOnLatch_cases c (classOf (withCondition c true s).settings c)
            (latchMarked c (withCondition c true s)) <;> rw [e] at h
        · refine ⟨by simpa using h, ?_⟩
          rw [latch_eq, e]
          split <;> simp
        · cases h
        · rw [requireResume_posture, hp] at h; cases h
        · cases h
        · rw [appendLater_posture, hp] at h; cases h
        · cases h
        · cases h

/-- A report that ends in HOLD began there, or latched a HOLD-class entry in RUN (R13). -/
theorem report_to_hold {c : Cause} (hf : c ≠ .following) {v : Bool} {s : State} (h : (report c v s).posture = .hold) :
    s.posture = .hold ∨ (classOf s.settings c = .hold ∧ ((report c v s).entry c).latched = true) := by
  unfold report at h ⊢
  cases v with
  | false =>
    left
    obtain e | e := reportWith_fall_cases true c s <;> rw [e] at h
    · exact h
    · by_contra hp
      rw [clearEntry_out_of_hold (s := withCondition c false s) _ _ _ hp] at h
      exact hp (by simpa using h)
  | true =>
    cases hc : (s.entry c).condition with
    | true => rw [reportWith_same hc] at h; exact .inl h
    | false =>
      cases hl : (s.entry c).latched with
      | true => rw [reportWith_rise_latched hl fun k => hf k.1] at h; exact .inl h
      | false =>
        rw [reportWith_rise hc hl] at h ⊢
        rw [latch_posture] at h
        obtain ⟨e, -⟩ | ⟨hcls, -, e⟩ | ⟨-, hp, e⟩ | ⟨-, -, e⟩ | ⟨-, hp, -, e⟩ | ⟨-, -, e⟩ | ⟨-, -, e⟩ :=
          postureOnLatch_cases c (classOf (withCondition c true s).settings c)
            (latchMarked c (withCondition c true s)) <;> rw [e] at h
        · exact .inl (by simpa using h)
        · exact .inr ⟨hcls, latch_latched c _⟩
        · exact .inl (by simpa using hp)
        · cases h
        · rw [appendLater_posture, hp] at h; cases h
        · cases h
        · cases h

/-! ### The conditions of the table (R108) -/

theorem evalPeers_pieces (s : State) : Pieces false s (evalPeers s) :=
  ((report_pieces .peerHold _ s).trans (report_pieces .peerUnload _ _)).trans (report_pieces .peerLost _ _)

theorem evalPeers_keeps (s : State) : Keeps s (evalPeers s) :=
  ((report_keeps .peerHold _ s).trans (report_keeps .peerUnload _ _)).trans (report_keeps .peerLost _ _)

/-- The three conditions are those of the table behind the evaluation (R108). -/
theorem evalPeers_peerConditionLaw (s : State) : peerConditionLaw (evalPeers s) := by
  have k := evalPeers_keeps s
  rw [peerConditionLaw, k.settings, k.entries]
  refine ⟨?_, ?_, reportWith_condition (by simp) (by simp) true _ _⟩
  · rw [evalPeers, report, reportWith_entry_other (by simp) (by simp) (by simp), report,
      reportWith_entry_other (by simp) (by simp) (by simp)]
    exact reportWith_condition (by simp) (by simp) true _ s
  · rw [evalPeers, report, reportWith_entry_other (by simp) (by simp) (by simp)]
    exact reportWith_condition (by simp) (by simp) true _ _

/-- An evaluation of the conditions that begins and ends in RUN leaves the program unit: what takes the station out of
RUN stays latched (R13, R15). -/
theorem evalPeers_program_of_run {s : State} (hs : s.posture = .run) (ht : (evalPeers s).posture = .run) :
    (evalPeers s).program = s.program := by
  let a := report .peerHold (peerHoldCondition s.settings.group s.peers.entries) s
  let b := report .peerUnload (peerUnloadCondition s.settings.group s.peers.entries) a
  have lost := report_to_run (c := .peerLost) (by simp) (s := b) ht
  have unloads : b.posture = .run → a.posture = .run ∧ b.program = a.program := fun hb =>
    (report_to_run (c := .peerUnload) (by simp) (s := a) hb).resolve_right fun k => absurd k.2.1 (by simp [classOf])
  have holds : a.posture = .run → a.program = s.program := fun ha =>
    ((report_to_run (c := .peerHold) (by simp) (s := s) ha).resolve_right fun k => by
      rw [hs] at k; exact absurd k.1 (by simp)).2
  obtain ⟨hb, program⟩ | ⟨hb, -, clear⟩ := lost
  · obtain ⟨ha, program'⟩ := unloads hb
    exact (program.trans program').trans (holds ha)
  · have ha : a.posture = .hold := (report_to_hold (c := .peerUnload) (by simp) (s := a) hb).resolve_right fun k =>
      absurd k.1 (by simp [classOf])
    obtain k | ⟨-, latched⟩ := report_to_hold (c := .peerHold) (by simp) (s := s) ha
    · rw [hs] at k; cases k
    · have latched : (b.entry .peerHold).latched = true :=
        (reportWith_latched_other (c := .peerUnload) (by simp) true _ a).trans latched
      rw [clear .peerHold (by simp) rfl] at latched
      cases latched

/-! ### Pacing (R117, R118) -/

/-- The progress asks neither for the paced flag nor for a mark of an interrupted cycle (R45). -/
theorem progress_of_mark (p : Program) (paced : Bool) :
    ({ p with flight := p.flight.map interrupted, paced := paced } : Program).progress = p.progress := by
  unfold Program.progress
  cases p.queue with
  | nil => rfl
  | cons seg rest =>
    cases p.flight with
    | none => rfl
    | some w =>
      have same : fraction p.setpoint seg.body (interrupted w) = fraction p.setpoint seg.body w := by
        unfold interrupted
        split
        · cases seg.body <;> rfl
        · rfl
      simp [same]

/-- The largest lead is a lead of the set, and no lead exceeds it (R117). -/
theorem largestLead_none_iff (own : BitVec 32) (es : List Peer) : largestLead own es = none ↔ es = [] := by
  cases es with
  | nil => simp [largestLead]
  | cons e es => simp only [largestLead]; split <;> simp

theorem largestLead_bounds {own : BitVec 32} {es : List Peer} {l : Int} (h : largestLead own es = some l) :
    (∃ e ∈ es, leadOver own e = l) ∧ ∀ e ∈ es, leadOver own e ≤ l := by
  induction es generalizing l with
  | nil => cases h
  | cons e es ih =>
    simp only [largestLead] at h
    split at h
    next hn =>
      cases h
      rw [largestLead_none_iff] at hn
      subst hn
      simp
    next m hm =>
      cases h
      obtain ⟨⟨x, hx, ex⟩, most⟩ := ih hm
      refine ⟨?_, fun y hy => ?_⟩
      · obtain hle | hle := Int.le_total (leadOver own e) m
        · exact ⟨x, List.mem_cons_of_mem _ hx, by omega⟩
        · exact ⟨e, List.mem_cons_self, by omega⟩
      · obtain rfl | hy := List.mem_cons.mp hy
        · omega
        · have := most y hy; omega

/-- The paced flag over a set of peers, by the greatest lead (R118). -/
theorem pacedAfter_cases (limit : Nat) (own : BitVec 32) (es : List Peer) (paced : Bool) :
    ((∀ e ∈ es, leadOver own e ≤ ((limit / 2 : Nat) : Int)) → pacedAfter limit (largestLead own es) paced = false) ∧
    (limit ≠ 0 → (∃ e ∈ es, (limit : Int) < leadOver own e) → pacedAfter limit (largestLead own es) paced = true) ∧
    (limit = 0 → pacedAfter limit (largestLead own es) paced = false) ∧
    ((∀ e ∈ es, leadOver own e ≤ limit) → (∃ e ∈ es, ((limit / 2 : Nat) : Int) < leadOver own e) →
      pacedAfter limit (largestLead own es) paced = paced) := by
  cases h : largestLead own es with
  | none =>
    rw [largestLead_none_iff] at h
    subst h
    simp [pacedAfter]
  | some l =>
    obtain ⟨⟨x, hx, ex⟩, most⟩ := largestLead_bounds h
    refine ⟨fun few => ?_, fun hl ⟨e, he, far⟩ => ?_, fun hl => ?_, fun near ⟨e, he, far⟩ => ?_⟩
    · have low : l ≤ ((limit / 2 : Nat) : Int) := ex ▸ few x hx
      have under : ¬((limit : Int) < l) := by omega
      simp only [pacedAfter, if_neg under, if_pos low, ite_self]
    · have := most e he
      simp only [pacedAfter]
      rw [if_neg hl, if_pos (by omega)]
    · simp [pacedAfter, hl]
    · have := near x hx
      have := most e he
      simp only [pacedAfter]
      rw [if_neg (by omega), if_neg (by omega), if_neg (by omega)]

/-- The pacing evaluation behind work that left the settings, and the program where the station stayed in RUN (R118). -/
theorem evalPacing_paces {s u : State} (settings : u.settings = s.settings)
    (program : s.posture = .run → u.posture = .run → u.program = s.program) : Paces s (evalPacing u) := by
  have posture : (evalPacing u).posture = u.posture := by unfold evalPacing; split <;> rfl
  intro ht
  have hu : u.posture = .run := posture.symm.trans ht
  let set := u.peers.entries.filter (inPacingSet u.settings.group)
  let paced := pacedAfter u.settings.leadLimit (largestLead u.program.progress set) u.program.paced
  have flight : (evalPacing u).program = { u.program with
      paced := paced, flight := if paced then u.program.flight.map interrupted else u.program.flight } := by
    have evaluated : (evalPacing u).program =
        { (if paced then markInterrupted u.program else u.program) with paced := paced } := by
      rw [evalPacing, if_pos hu]
    rw [evaluated]
    cases paced with
    | false => rfl
    | true => simp [markInterrupted_eq]
  have entries : (evalPacing u).peers.entries = u.peers.entries := by unfold evalPacing; split <;> rfl
  have progress : (evalPacing u).program.progress = u.program.progress := by
    rw [flight]
    cases paced with
    | false => rfl
    | true => exact progress_of_mark u.program true
  have mem : ∀ e, e ∈ set ↔ e ∈ u.peers.entries ∧ inPacingSet s.settings.group e = true := fun e => by
    rw [List.mem_filter, settings]
  have flag : (evalPacing u).program.paced = pacedAfter s.settings.leadLimit
      (largestLead u.program.progress set) u.program.paced := by rw [flight, ← settings]
  obtain ⟨clears, sets, off, keeps⟩ :=
    pacedAfter_cases s.settings.leadLimit u.program.progress set u.program.paced
  rw [entries, progress, flag]
  refine ⟨fun few => clears fun e he => ?_, fun hl ⟨e, he, hin, far⟩ => sets hl ⟨e, (mem e).mpr ⟨he, hin⟩, far⟩, off,
    fun hs near ⟨e, he, hin, far⟩ => ?_, fun hs _ => ?_⟩
  · exact few e ((mem e).mp he).1 ((mem e).mp he).2
  · rw [← program hs hu]
    exact keeps (fun e he => near e ((mem e).mp he).1 ((mem e).mp he).2) ⟨e, (mem e).mpr ⟨he, hin⟩, far⟩
  · rw [flight, ← program hs hu, ← settings]

end Sys2Proof.LoadProgram

/-! ## The own report period (R78, R88, R89, R104) -/

namespace Sys2Proof.LoadProgram

open Sys2Proof Sys2Proof.Machine Sys2Proof.Laws Sys2Proof.Safety Sys2Proof.Claims Sys2Proof.Postures

/-! ### The line's work -/

theorem fillReport_line_only (s : State) : fillReport s = { s with line := (fillReport s).line } := by
  unfold fillReport
  split <;> rfl

/-- With a station id the report slot is filled, a pending report kept (R78). -/
theorem fillReport_reportSlot {s : State} (h : s.settings.stationId ≠ 0) :
    (fillReport s).line.reportSlot = some (s.line.reportSlot.getD {}) := by
  rw [fillReport, if_neg h]
  exact shown_settleTx _ _ .report

theorem fillReport_breaking {s : State} (h : Breaking s.line) : Breaking (fillReport s).line := by
  unfold fillReport
  split
  · exact h
  · exact settleTx_breaking _ h

theorem reportPeriodLine_eq (s : State) : reportPeriodLine s = { s with
    timers := { s.timers with report := s.settings.reportPeriod * 1000 }, line := (reportPeriodLine s).line } := by
  unfold reportPeriodLine
  simp only
  rw [fillReport_line_only]
  split
  · rw [askBreak_eq]; rfl
  · rfl

/-- What the line's work leaves of the report slot and of a break that is due (R78, R88, R89; log 20). -/
theorem reportPeriodLine_cases (s : State) :
    (s.settings.stationId = 0 → (reportPeriodLine s).line.reportSlot = s.line.reportSlot) ∧
    (s.settings.stationId ≠ 0 → (reportPeriodLine s).line.reportSlot.isSome = true) ∧
    (s.settings.stationId ≠ 0 → s.breakDue = false →
      (reportPeriodLine s).line.reportSlot = some (s.line.reportSlot.getD {})) ∧
    (s.settings.stationId ≠ 0 → s.breakDue = true → Breaking (reportPeriodLine s).line) := by
  let rearmed : State := { s with timers := { s.timers with report := s.settings.reportPeriod * 1000 } }
  have line : reportPeriodLine s = fillReport (if s.breakDue then askBreak rearmed else rearmed) := rfl
  have settings : (if s.breakDue then askBreak rearmed else rearmed).settings = s.settings := by
    split
    · exact askBreak_settings rearmed
    · rfl
  refine ⟨fun h0 => ?_, fun hn => ?_, fun hn hb => ?_, fun hn hb => ?_⟩
  · have asked : (if s.breakDue then askBreak rearmed else rearmed) = rearmed := by
      split
      · exact if_pos h0
      · rfl
    rw [line, asked, fillReport, if_pos (by exact h0)]
  · rw [line, fillReport_reportSlot (by rw [settings]; exact hn)]
    rfl
  · rw [line, hb]
    exact fillReport_reportSlot (s := rearmed) hn
  · rw [line, hb]
    refine fillReport_breaking ?_
    rw [if_pos rfl, askBreak, if_neg (by exact hn)]
    exact startBreak_breaks _

/-! ### The aging pass (R104) -/

theorem agedEntries_mem (st : Settings) (es : List Peer) (e : Peer) : e ∈ agedEntries st es ↔ ∃ b ∈ es,
    ¬(st.forgetLimit ≠ 0 ∧ st.forgetLimit ≤ min (b.age + 1) 65535) ∧
    e = { b with age := min (b.age + 1) 65535, holdCount := b.holdCount - 1
                 lost := b.lost || decide (st.peerLostLimit ≤ min (b.age + 1) 65535) } := by
  have stays : ∀ b, (!forgotten st b) = true ↔
      ¬(st.forgetLimit ≠ 0 ∧ st.forgetLimit ≤ min (b.age + 1) 65535) := fun b => by
    rw [Bool.not_eq_true', ← Bool.not_eq_true, not_iff_not, forgotten, Bool.and_eq_true, decide_eq_true_iff,
      decide_eq_true_iff]
    rfl
  simp only [agedEntries, List.mem_map, List.mem_filter, stays, and_assoc]
  exact ⟨fun ⟨b, hb, hn, he⟩ => ⟨b, hb, hn, he.symm⟩, fun ⟨b, hb, hn, he⟩ => ⟨b, hb, hn, he.symm⟩⟩

/-- The conditions' evaluation of an aging pass, before the trim and the pacing. -/
def agedAndEvaluated (s : State) : State :=
  evalPeers (pushNotices (s.peers.entries.flatMap (ageNotices s.settings))
    (setPeers (agedEntries s.settings s.peers.entries) s))

theorem stepTrim_eq (s : State) :
    stepTrim s = { s with peers := { s.peers with trim := (stepTrim s).peers.trim } } := by
  unfold stepTrim
  split <;> rfl

theorem stepTrim_settings (s : State) : (stepTrim s).settings = s.settings := by rw [stepTrim_eq]
theorem stepTrim_posture (s : State) : (stepTrim s).posture = s.posture := by rw [stepTrim_eq]
theorem stepTrim_program (s : State) : (stepTrim s).program = s.program := by rw [stepTrim_eq]

theorem evalPacing_eq (s : State) : evalPacing s = { s with program := (evalPacing s).program } := by
  unfold evalPacing
  split <;> rfl

theorem trimmedAndPaced_eq (u : State) : evalPacing (stepTrim u) = { u with
    program := (evalPacing (stepTrim u)).program, peers := { u.peers with trim := (stepTrim u).peers.trim } } := by
  rw [evalPacing_eq, stepTrim_eq]

theorem agingPass_eq (s : State) : agingPass s = { agedAndEvaluated s with
    program := (agingPass s).program
    peers := { (agedAndEvaluated s).peers with trim := (stepTrim (agedAndEvaluated s)).peers.trim } } :=
  trimmedAndPaced_eq (agedAndEvaluated s)

theorem pushNotices_keeps (ns : List Notice) (s : State) : Keeps s (pushNotices ns s) := by
  induction ns generalizing s with
  | nil => exact .refl s
  | cons n ns ih => exact (pushNotice_keeps n s).trans (ih _)

theorem agedAndEvaluated_pieces (s : State) :
    Pieces false (setPeers (agedEntries s.settings s.peers.entries) s) (agedAndEvaluated s) :=
  (pushNotices_pieces _ _).trans (evalPeers_pieces _)

theorem agedAndEvaluated_keeps (s : State) :
    Keeps (setPeers (agedEntries s.settings s.peers.entries) s) (agedAndEvaluated s) :=
  (pushNotices_keeps _ _).trans (evalPeers_keeps _)

theorem pushNotices_posture (ns : List Notice) (s : State) : (pushNotices ns s).posture = s.posture := by
  induction ns generalizing s with
  | nil => rfl
  | cons n ns ih => exact (ih _).trans rfl

theorem pushNotices_program (ns : List Notice) (s : State) : (pushNotices ns s).program = s.program := by
  induction ns generalizing s with
  | nil => rfl
  | cons n ns ih => exact (ih _).trans rfl

/-- Notices and the conditions' evaluation leave the program of a station that stays in RUN. -/
theorem noticedAndEvaluated_program (ns : List Notice) {s : State} (hs : s.posture = .run)
    (ht : (evalPeers (pushNotices ns s)).posture = .run) : (evalPeers (pushNotices ns s)).program = s.program :=
  (evalPeers_program_of_run ((pushNotices_posture ns s).trans hs) ht).trans (pushNotices_program ns s)

theorem agingPass_paces (s : State) : Paces s (agingPass s) := by
  have settings : (agedAndEvaluated s).settings = s.settings := (agedAndEvaluated_keeps s).settings
  have stays : s.posture = .run → (agedAndEvaluated s).posture = .run → (agedAndEvaluated s).program = s.program :=
    noticedAndEvaluated_program _ (s := setPeers (agedEntries s.settings s.peers.entries) s)
  have paced : agingPass s = evalPacing (stepTrim (agedAndEvaluated s)) := rfl
  rw [paced]
  generalize agedAndEvaluated s = u at settings stays ⊢
  refine evalPacing_paces ?_ fun hs ht => ?_
  · rw [stepTrim_settings, settings]
  · rw [stepTrim_posture] at ht
    rw [stepTrim_program, stays hs ht]

/-- What stands around the aging pass: the line and the other blocks are those of the conditions' evaluation. -/
structure AgedAround (s t : State) : Prop where
  timers : t.timers = s.timers
  settings : t.settings = s.settings
  strain : t.strain = s.strain
  crack : t.crack = s.crack
  ports : t.ports = s.ports
  entries : t.peers.entries = agedEntries s.settings s.peers.entries
  conditions : peerConditionLaw t
  reportSlot : t.line.reportSlot = s.line.reportSlot
  breaking : Breaking s.line → Breaking t.line
  paces : Paces s t

theorem agingPass_around (s : State) : AgedAround s (agingPass s) := by
  have k := agedAndEvaluated_keeps s
  have m := agedAndEvaluated_pieces s
  have law : peerConditionLaw (agedAndEvaluated s) := evalPeers_peerConditionLaw _
  have paces := agingPass_paces s
  have frame := agingPass_eq s
  generalize agedAndEvaluated s = u at k m law frame
  generalize agingPass s = t at frame paces
  constructor
  case paces => exact paces
  all_goals rw [frame]
  · exact k.timers
  · exact k.settings
  · exact k.strain
  · exact k.crack
  · exact k.ports
  · exact k.entries
  · exact law
  · exact m.reportSlot
  · exact m.breaking

/-- Settles O39: the line's work, then the aging pass, whose posture work leaves the report slot and a break. -/
theorem reportPeriodAgesThePeers : Obligations.ReportPeriodAgesThePeers := by
  intro s
  have before := reportPeriodLine_eq s
  obtain ⟨off, filled, kept, breaks⟩ := reportPeriodLine_cases s
  have around := agingPass_around (reportPeriodLine s)
  have row : exec .reportPeriodExpiry s = .next (agingPass (reportPeriodLine s)) := rfl
  generalize reportPeriodLine s = r at before off filled kept breaks around row
  have settings : r.settings = s.settings := by rw [before]
  have posture : r.posture = s.posture := by rw [before]
  have program : r.program = s.program := by rw [before]
  have peers : r.peers = s.peers := by rw [before]
  refine ⟨_, row, around.timers.trans (by rw [before]), fun e => ?_, around.conditions, around.settings.trans settings,
    around.strain.trans (by rw [before]), around.crack.trans (by rw [before]), around.ports.trans (by rw [before]),
    fun h => around.reportSlot.trans (off h), fun h => (congrArg Option.isSome around.reportSlot).trans (filled h),
    fun h hb => around.reportSlot.trans (kept h hb), fun h hb => around.breaking (breaks h hb), ?_⟩
  · rw [around.entries, agedEntries_mem, settings, peers]
  · have paces := around.paces
    rw [Paces, settings, posture, program] at paces
    exact paces

end Sys2Proof.LoadProgram

/-! ## A good REPORT (R77, R95 to R100, R108, R117, R118) -/

namespace Sys2Proof.LoadProgram

open Sys2Proof Sys2Proof.Machine Sys2Proof.Laws Sys2Proof.Safety Sys2Proof.Claims Sys2Proof.Postures

/-! ### From the characters to the frame (R72 to R75) -/

/-- The bytes of a REPORT before its CRC (R72, R73). -/
def reportHead (source : Byte) (r : ReportFields) : List Byte :=
  [syncByte, 0x31#8, source, 13#8] ++ reportPayload r

theorem encodeFrame_report {f : Frame} {r : ReportFields} (h : f.body = .report r) :
    encodeFrame f = sealed (reportHead f.source r) := by
  unfold encodeFrame
  rw [h]
  rfl

theorem encodeFrame_report_length {f : Frame} {r : ReportFields} (h : f.body = .report r) :
    (encodeFrame f).length = 19 := by
  rw [encodeFrame_report h]
  rfl

theorem frameLength_report {f : Frame} {r : ReportFields} (h : f.body = .report r) :
    frameLength (encodeFrame f) = some 19 := by
  rw [encodeFrame_report h]
  rfl

/-- A REPORT from an id other than 0 stands every test of its frame (R75). -/
theorem judgeFrame_report {f : Frame} {r : ReportFields} (h : f.body = .report r) (h0 : f.source ≠ 0#8) :
    judgeFrame (encodeFrame f) = .good f := by
  obtain ⟨covered, check, -⟩ := sealed_split (reportHead f.source r)
  have payload : decodePayload 0x31#8 13#8 (reportPayload r) = some (.report r) := by
    simp only [decodePayload, reportPayload, bytes4, bytes3, and_self, if_true, List.cons_append, List.nil_append]
    exact congrArg (fun x => some (FrameBody.report x))
      (congrArg₂ (fun p l => ReportFields.mk r.group r.weight r.posture r.flags r.cause r.hold p l)
        (join4_bytes r.progress) (join3_bytes r.load))
  have frame : (⟨f.source, .report r⟩ : Frame) = f := by rw [← h]
  rw [encodeFrame_report h, judgeFrame]
  rw [covered, check, if_neg (by simp)]
  simp only [reportHead, List.cons_append, List.nil_append, payload, if_neg h0, frame]

/-- The station as a REPORT's characters leave it before the frame is judged. -/
def heard (f : Frame) (s : State) : State := setLine (lineAfterChars (encodeFrame f) .mark false s.line) s

/-- A listening receiver hands a good REPORT from another id to the peer table (R74, R75, R77). -/
theorem receiveChars_report {f : Frame} {r : ReportFields} {s : State} (hs : Listens s) (h : f.body = .report r)
    (h0 : f.source ≠ 0#8) (hid : f.source.toNat ≠ s.settings.stationId) :
    exec (.frameReceived (encodeFrame f) .mark false) s = .next (takePeerFrame f (heard f s)) := by
  have length := encodeFrame_report_length h
  have filled : encodeFrame f ≠ [] := fun e => by rw [e] at length; cases length
  have sync : (encodeFrame f).head? = some syncByte := by rw [encodeFrame_report h]; rfl
  have whole : (encodeFrame f).take 19 = encodeFrame f := List.take_of_length_le (by rw [length])
  have taken : takeChars (encodeFrame f) .mark (heard f s) = takePeerFrame f (heard f s) := by
    unfold takeChars
    rw [if_neg (by simp [sync]), if_neg (by simp), frameLength_report h]
    simp only
    rw [if_pos (by rw [length]), whole, takeFrame, judgeFrame_report h h0]
    exact if_neg hid
  show Host.Outcome.next (receiveChars (encodeFrame f) .mark false s) = _
  rw [receiveChars, if_neg (by simp [hs.1, filled]), hs.2]
  exact congrArg Host.Outcome.next taken

theorem takePeerFrame_known {f : Frame} {r : ReportFields} {s : State} {e : Peer} (h : f.body = .report r)
    (hf : s.peers.entries.find? (fun x => x.id = f.source.toNat) = some e) :
    takePeerFrame f s = takeKnownReport e r s := by
  have found : findPeer f.source.toNat s.peers.entries = some e := hf
  unfold takePeerFrame
  rw [h, found]

theorem takePeerFrame_unknown {f : Frame} {r : ReportFields} {s : State} (h : f.body = .report r)
    (hf : ∀ e ∈ s.peers.entries, e.id ≠ f.source.toNat) :
    takePeerFrame f s = if r.group.toNat = s.settings.group then takeNewcomer f.source.toNat r s else s := by
  have found : findPeer f.source.toNat s.peers.entries = none := by
    simpa [findPeer, List.find?_eq_none] using hf
  unfold takePeerFrame
  rw [h, found]

/-! ### The entries (R95, R97, R99, R100) -/

theorem weightOfByte_eq (b : Byte) : weightOfByte b = if b = 0#8 then 1 else b.toNat := by
  unfold weightOfByte
  split
  next h => rw [h]; rfl
  next h =>
    have : b.toNat ≠ 0 := fun k => h (BitVec.eq_of_toNat_eq k)
    omega

/-- The fields a REPORT writes are those the claims name (R95). -/
theorem writeReport_eq (r : ReportFields) (e : Peer) : writeReport r e = reported r e := by
  unfold writeReport reported
  rw [weightOfByte_eq]
  rfl

theorem learntPeer_eq (id : Nat) (r : ReportFields) : learntPeer id r =
    reported r ⟨id, 0, 0, .idle, false, false, false, 0, r.hold.toNat, 0, 0, 0, false, 1, false⟩ := by
  unfold learntPeer
  rw [writeReport_eq]
  rfl

theorem updatedPeer_eq (r : ReportFields) (e : Peer) : updatedPeer r e = reported r { e with
    holdCount := if e.group = r.group.toNat then r.hold.toNat else 0, age := 0, lost := false
    chatterCount := min (e.chatterCount + 1) 255 } := by
  unfold updatedPeer
  rw [writeReport_eq]
  simp only [eq_comm (a := r.group.toNat)]
  rfl

theorem insertPeer_mem (p : Peer) (es : List Peer) (e : Peer) : e ∈ insertPeer p es ↔ e ∈ es ∨ e = p := by
  induction es with
  | nil => simp [insertPeer]
  | cons x xs ih =>
    unfold insertPeer
    split
    · simp [or_comm]
    · simp [ih, or_assoc]

/-- The entry found by an id carries it. -/
theorem found_id {id : Nat} {es : List Peer} {e : Peer} (h : es.find? (fun x => x.id = id) = some e) : e.id = id := by
  simpa using List.find?_some h

/-! ### The work behind an accepted REPORT -/

/-- What follows an entry's change: the notices and the conditions' evaluation (R100, R108). -/
def noticed (ns : List Notice) (es : List Peer) (s : State) : State := evalPeers (pushNotices ns (setPeers es s))

theorem noticed_keeps (ns : List Notice) (es : List Peer) (s : State) :
    Keeps (setPeers es s) (noticed ns es s) :=
  (pushNotices_keeps _ _).trans (evalPeers_keeps _)

theorem pacingAfterReport_cases (group : Nat) (s : State) :
    (group = s.settings.group ∧ pacingAfterReport group s = evalPacing s) ∨
    (group ≠ s.settings.group ∧ pacingAfterReport group s = s) := by
  unfold pacingAfterReport
  split
  next h => exact .inl ⟨h, rfl⟩
  next h => exact .inr ⟨h, rfl⟩

/-- What an accepted REPORT leaves: the entries as written, their conditions, and the pacing of the own group. -/
structure Accepted (group : Nat) (es : List Peer) (s t : State) : Prop where
  entries : t.peers.entries = es
  refusals : t.peers.refusals = s.peers.refusals
  conditions : peerConditionLaw t
  paces : group = s.settings.group → Paces s t
  program : group ≠ s.settings.group → s.posture = .run → t.posture = .run → t.program = s.program

theorem pacingAfterReport_accepted (group : Nat) (ns : List Notice) (es : List Peer) (s : State) :
    Accepted group es s (pacingAfterReport group (noticed ns es s)) := by
  have k := noticed_keeps ns es s
  have law : peerConditionLaw (noticed ns es s) := evalPeers_peerConditionLaw _
  have stays : s.posture = .run → (noticed ns es s).posture = .run → (noticed ns es s).program = s.program :=
    noticedAndEvaluated_program ns (s := setPeers es s)
  generalize noticed ns es s = u at k law stays
  have settings : u.settings = s.settings := k.settings
  obtain ⟨h, e⟩ | ⟨h, e⟩ := pacingAfterReport_cases group u
  · rw [e]
    have paced : evalPacing u = { u with program := (evalPacing u).program } := evalPacing_eq u
    refine ⟨?_, ?_, ?_, fun _ => evalPacing_paces settings stays, fun hn => absurd (h.trans (by rw [settings])) hn⟩
    · rw [paced]; exact k.entries
    · rw [paced]; exact k.refusals
    · rw [paced]; exact law
  · rw [e]
    exact ⟨k.entries, k.refusals, law, fun hg => absurd (hg.trans (by rw [settings])) h, fun _ => stays⟩

/-! ### The notices of an update (R100, R190) -/

/-- Notices handed over to a queue with room for all of them join its tail (R190). -/
theorem pushNotices_short {ns : List Notice} {s : State} (h : s.link.notices.length + ns.length ≤ 31) :
    (pushNotices ns s).link.notices = s.link.notices ++ ns.map fun n => ⟨s.time, n⟩ := by
  induction ns generalizing s with
  | nil => simp [pushNotices]
  | cons n ns ih =>
    have first : (pushNotice n s).link.notices = s.link.notices ++ [⟨s.time, n⟩] :=
      queueNotice_short (by simp at h; omega) _ _
    have rest := ih (s := pushNotice n s) (by rw [first]; simp at h ⊢; omega)
    have shifted : pushNotices (n :: ns) s = pushNotices ns (pushNotice n s) := rfl
    rw [shifted, rest, first]
    simp

/-- The notices of an update are those the claims name (R100; log 37). -/
theorem updateNotices_eq (time : BitVec 32) (r : ReportFields) (e : Peer) :
    (updateNotices e (updatedPeer r e)).map (fun n => (⟨time, n⟩ : NoticeEntry)) =
      updateNotes time e (reported r e) := by
  have group : (updatedPeer r e).group = (reported r e).group := by rw [updatedPeer_eq]; rfl
  have weight : (updatedPeer r e).weight = (reported r e).weight := by rw [updatedPeer_eq]; rfl
  unfold updateNotices updateNotes
  rw [group, weight, List.map_append]
  congr 1 <;> split <;> rfl

theorem updateNotices_length (before after : Peer) : (updateNotices before after).length ≤ 2 := by
  unfold updateNotices
  split <;> split <;> simp

theorem noticed_prefix {ns : List Notice} {es : List Peer} {s : State} (h : s.link.notices.length + ns.length ≤ 31) :
    s.link.notices ++ ns.map (fun n => ⟨s.time, n⟩) <+: (noticed ns es s).link.notices :=
  (evalPeers_pieces _).keepsFront (by simpa using h)
    (by rw [pushNotices_short (s := setPeers es s) h]; exact List.prefix_rfl)

theorem pacingAfterReport_link (group : Nat) (s : State) : (pacingAfterReport group s).link = s.link := by
  obtain ⟨-, e⟩ | ⟨-, e⟩ := pacingAfterReport_cases group s <;> rw [e]
  rw [evalPacing_eq]

/-! ### The five fates of a REPORT (R97 to R100) -/

theorem takeNewcomer_learns {id : Nat} {r : ReportFields} {s : State} (room : s.peers.entries.length < 24) :
    takeNewcomer id r s = pacingAfterReport r.group.toNat
      (noticed [.peerLearnt id (learntPeer id r).group (learntPeer id r).weight]
        (insertPeer (learntPeer id r) s.peers.entries) s) := if_pos room

/-- The refusal of a newcomer by a full table, counted (R98). -/
def refusalCounted (id : Nat) (s : State) : State :=
  { s with peers := { s.peers with refusals := min (s.peers.refusals + 1) 65535, refusedId := some id } }

theorem takeNewcomer_refuses {id : Nat} {r : ReportFields} {s : State} (full : 24 ≤ s.peers.entries.length) :
    takeNewcomer id r s = if s.peers.refusedId = some id then refusalCounted id s
      else pushNotice (.peerRefused id (min (s.peers.refusals + 1) 65535)) (refusalCounted id s) :=
  if_neg (Nat.not_lt.mpr full)

theorem takeKnownReport_accepts {e : Peer} {r : ReportFields} {s : State}
    (h : s.settings.chatterLimit = 0 ∨ e.chatterCount < s.settings.chatterLimit) :
    takeKnownReport e r s = pacingAfterReport r.group.toNat
      (noticed (updateNotices e (updatedPeer r e)) (putPeer (updatedPeer r e) s.peers.entries) s) :=
  if_neg fun k => by omega

theorem takeKnownReport_discards {e : Peer} {r : ReportFields} {s : State} (h0 : s.settings.chatterLimit ≠ 0)
    (h : s.settings.chatterLimit ≤ e.chatterCount) :
    takeKnownReport e r s = setPeers (putPeer { e with chattering := true } s.peers.entries) s := if_pos ⟨h0, h⟩

/-- Settles O51, fate by fate. -/
theorem reportUpdatesThePeerTable : Obligations.ReportUpdatesThePeerTable := by
  intro f r s hs hb h0 hid
  have row := receiveChars_report hs hb h0 hid
  have peers : (heard f s).peers = s.peers := rfl
  have unknown : (∀ e ∈ s.peers.entries, e.id ≠ f.source.toNat) → takePeerFrame f (heard f s) =
      if r.group.toNat = s.settings.group then takeNewcomer f.source.toNat r (heard f s) else heard f s :=
    takePeerFrame_unknown (s := heard f s) hb
  refine ⟨fun hg hn room => ?_, fun hg hn full => ?_, fun hg hn => ?_, fun e he hlow => ?_, fun e he hon hhigh => ?_⟩
  · rw [unknown hn, if_pos hg, takeNewcomer_learns (by exact room), peers] at row
    have a := pacingAfterReport_accepted r.group.toNat
      [.peerLearnt f.source.toNat (learntPeer f.source.toNat r).group (learntPeer f.source.toNat r).weight]
      (insertPeer (learntPeer f.source.toNat r) s.peers.entries) (heard f s)
    refine ⟨_, row, fun e => ?_, a.conditions, a.refusals, a.paces hg⟩
    rw [a.entries, insertPeer_mem, learntPeer_eq]
  · rw [unknown hn, if_pos hg, takeNewcomer_refuses (by exact full)] at row
    refine ⟨_, row, ?_⟩
    by_cases last : s.peers.refusedId = some f.source.toNat
    · rw [if_pos (by exact last)]
      exact ⟨rfl, rfl, fun _ => rfl, fun other => absurd last other⟩
    · rw [if_neg (by exact last)]
      exact ⟨rfl, rfl, fun same => absurd same last, fun _ few => queueNotice_short few _ _⟩
  · rw [unknown hn, if_neg hg] at row
    exact ⟨_, row, rfl⟩
  · have found := found_id he
    have known : takePeerFrame f (heard f s) = takeKnownReport e r (heard f s) :=
      takePeerFrame_known (s := heard f s) hb he
    rw [known, takeKnownReport_accepts (by exact hlow), peers] at row
    have a := pacingAfterReport_accepted r.group.toNat (updateNotices e (updatedPeer r e))
      (putPeer (updatedPeer r e) s.peers.entries) (heard f s)
    refine ⟨_, row, ?_, a.conditions, a.paces, a.program, fun few => ?_⟩
    · rw [a.entries, putPeer, updatedPeer_eq, ← found]
      rfl
    · have stands := noticed_prefix (ns := updateNotices e (updatedPeer r e))
        (es := putPeer (updatedPeer r e) s.peers.entries) (s := heard f s)
        (by have := updateNotices_length e (updatedPeer r e); exact Nat.add_le_add few this)
      rw [updateNotices_eq] at stands
      rw [List.isPrefixOf_iff_prefix, pacingAfterReport_link]
      exact stands
  · have found := found_id he
    have known : takePeerFrame f (heard f s) = takeKnownReport e r (heard f s) :=
      takePeerFrame_known (s := heard f s) hb he
    rw [known, takeKnownReport_discards (s := heard f s) hon hhigh, peers] at row
    refine ⟨_, row, ?_, rfl⟩
    rw [← found]
    rfl

end Sys2Proof.LoadProgram

/-! ## Load and displacement samples (R49 to R52) -/

namespace Sys2Proof.ServoIntake

open Sys2Proof Sys2Proof.Machine Sys2Proof.Laws Sys2Proof.Safety Sys2Proof.Claims Sys2Proof.Postures
open Sys2Proof.LoadProgram

/-! ### The value of a sample -/

theorem sampleValue_fault {v : BitVec 24} (h : v.toInt = -8388608) : sampleValue v = none := if_pos h

theorem sampleValue_valid {v : BitVec 24} (h : v.toInt ≠ -8388608) : sampleValue v = some v.toInt := if_neg h

/-! ### A fall of an entry that holds nothing -/

/-- The fall of a condition whose class is not HOLD works on its entry alone, in every posture: no HOLD exit and no hold
demand follow (R9, R11, R15). -/
theorem reportWith_fall_onlyEntry (exit : Bool) {c : Cause} {s : State} (hc : classOf s.settings c ≠ .hold) :
    OnlyEntry c s (reportWith exit c false s) := by
  obtain e | e := reportWith_fall_cases exit c s <;> rw [e]
  · exact withCondition_onlyEntry c false s
  · have cleared : clearEntry exit (some c) c (withCondition c false s) = clearLatch c (withCondition c false s) := by
      rw [clearEntry, if_neg (by simp [hc])]
    rw [cleared]
    exact (clearLatch_onlyEntry (s := withCondition c false s) hc).behind

/-- A LEVEL entry clears at a fall exactly where its ack is pending (R7). -/
theorem reportWith_fall_level_latched (exit : Bool) {c : Cause} {s : State} (hm : modeOf s.settings c = .level) :
    ((reportWith exit c false s).entry c).latched = true ↔
      (s.entry c).latched = true ∧ ¬((s.entry c).condition = true ∧ (s.entry c).ackPending = true) := by
  cases hc : (s.entry c).condition with
  | false => simp [reportWith_same hc]
  | true =>
    cases hl : (s.entry c).latched with
    | false => simp [reportWith_fall_clear hl, withCondition_latched, hl]
    | true =>
      cases ha : (s.entry c).ackPending with
      | true => simp [reportWith_fall_acked hm hc hl ha, clearEntry_entry]
      | false => simp [reportWith, hc, onFall, hm, hl, ha]

/-! ### A report of an UNLOAD-class entry -/

/-- What a latch of class UNLOAD other than FOLLOWING's does, by the posture (R13, R16, R17). -/
theorem latch_unload_cases {c : Cause} {s : State} (hc : classOf s.settings c = .unload) (hn : c ≠ .following) :
    ((s.posture = .idle ∨ s.posture = .safe) ∧ latch c s = latchMarked c s) ∨
    ((s.posture = .run ∨ s.posture = .hold) ∧ latch c s = enterUnload c (latchMarked c s)) ∨
    (s.posture = .unload ∧ latch c s = appendLater c (latchMarked c s)) := by
  have rests (hp : s.posture = .idle ∨ s.posture = .safe) : latch c s = latchMarked c s := by
    rw [latch_eq, if_neg (by simp [hc]), postureOnLatch_rests _ _ (by simpa using hp)]
  cases hp : s.posture with
  | idle => exact .inl ⟨.inl rfl, rests (.inl hp)⟩
  | safe => exact .inl ⟨.inr rfl, rests (.inr hp)⟩
  | run => exact .inr (.inl ⟨.inl rfl, latch_unload_enters hc (.inl hp)⟩)
  | hold => exact .inr (.inl ⟨.inr rfl, latch_unload_enters hc (.inr hp)⟩)
  | unload => exact .inr (.inr ⟨rfl, latch_unload_in_unload hc hp hn⟩)

/-- A latch of class UNLOAD other than FOLLOWING's brings no entry into SAFE, so it touches its own entry alone (R13,
R65). -/
theorem latch_unload_entry_other {c d : Cause} {s : State} (hc : classOf s.settings c = .unload)
    (hn : c ≠ .following) (hd : d ≠ c) : (latch c s).entry d = s.entry d := by
  have marked : (latchMarked c s).entry d = s.entry d := by rw [latchMarked_entry, if_neg hd]
  obtain ⟨-, e⟩ | ⟨-, e⟩ | ⟨-, e⟩ := latch_unload_cases hc hn <;> rw [e]
  · exact marked
  · exact (enterUnload_entry _ c d).trans marked
  · exact (appendLater_entry c _ d).trans marked

theorem reportWith_unload_entry_other {c d : Cause} {s : State} (exit v : Bool)
    (hc : classOf s.settings c = .unload) (hn : c ≠ .following) (hd : d ≠ c) :
    (reportWith exit c v s).entry d = s.entry d := by
  have stored : ∀ w, (withCondition c w s).entry d = s.entry d := fun w => by rw [withCondition_entry, if_neg hd]
  cases v with
  | false => exact (reportWith_fall_onlyEntry exit (by simp [hc])).others d hd
  | true =>
    cases held : (s.entry c).condition with
    | true => rw [reportWith_same held]
    | false =>
      cases hl : (s.entry c).latched with
      | true => rw [reportWith_rise_latched hl fun k => hn k.1, stored]
      | false => rw [reportWith_rise held hl, latch_unload_entry_other (by simpa using hc) hn hd, stored]

/-- The rise of a clear UNLOAD-class entry brings UNLOAD in RUN and HOLD (R13, R16). -/
theorem reportWith_rise_unloads {exit : Bool} {c : Cause} {s : State} (hc : classOf s.settings c = .unload)
    (hp : s.posture = .run ∨ s.posture = .hold) (held : (s.entry c).condition = false)
    (hl : (s.entry c).latched = false) : (reportWith exit c true s).posture = .unload := by
  rw [reportWith_rise held hl, latch_unload_enters (by simpa using hc) (by simpa using hp), enterUnload_posture]

/-! ### The two intakes -/

/-- The loop with a valid load taken: the latest, its marker set, the stale counter 0 and the peak raised (R49, R50,
R51). -/
def loadTaken (l : Int) (s : State) : State :=
  { s with servo := { s.servo with load := some l, loadSeen := true, stale := 0, peak := max s.servo.peak l } }

/-- The loop with a valid displacement taken (R52). -/
def displacementTaken (d : Int) (s : State) : State := { s with servo := { s.servo with displacement := some d } }

theorem takeLoad_fault {v : BitVec 24} (h : v.toInt = -8388608) (s : State) : takeLoad v s = s := by
  rw [takeLoad, sampleValue_fault h]

theorem takeDisplacement_fault {v : BitVec 24} (h : v.toInt = -8388608) (s : State) : takeDisplacement v s = s := by
  rw [takeDisplacement, sampleValue_fault h]

/-- A valid load sample ends staleness: the counter it zeroes lies below every stale limit (R48, R50). -/
theorem takeLoad_valid {v : BitVec 24} (h : v.toInt ≠ -8388608) {s : State} (hs : 1 ≤ s.settings.staleLimit) :
    takeLoad v s = report .loadStale false (loadTaken v.toInt s) := by
  have fresh : loadStaleCondition s.settings (loadTaken v.toInt s).servo = false := by
    simp [loadStaleCondition, loadTaken]
    omega
  rw [takeLoad, sampleValue_valid h, ← fresh]
  rfl

theorem takeDisplacement_valid {v : BitVec 24} (h : v.toInt ≠ -8388608) (s : State) :
    takeDisplacement v s = report .stroke (decide (v.toInt < s.settings.strokeMin ∨ s.settings.strokeMax < v.toInt))
      (displacementTaken v.toInt s) := by
  rw [takeDisplacement, sampleValue_valid h, Bool.decide_or]
  rfl

/-- Settles O44: LOAD_STALE's fall works on its own entry alone, and STROKE's report is one of class UNLOAD. -/
theorem loopSamplesAreTaken : Obligations.LoopSamplesAreTaken := by
  intro v s
  have load : exec (.loadSample v) s = .next (takeLoad v s) := rfl
  have displacement : exec (.displacementSample v) s = .next (takeDisplacement v s) := rfl
  refine ⟨fun fault => ?_, fun valid limit => ?_, fun valid => ?_⟩
  · rw [load, displacement, takeLoad_fault fault, takeDisplacement_fault fault]
    exact ⟨rfl, rfl⟩
  · rw [takeLoad_valid valid limit] at load
    have only : OnlyEntry .loadStale (loadTaken v.toInt s) (report .loadStale false (loadTaken v.toInt s)) :=
      reportWith_fall_onlyEntry true (by simp [classOf])
    exact ⟨_, load, only.frame, reportWith_condition (by simp) (by simp) true false _,
      reportWith_fall_level_latched true rfl, only.others⟩
  · rw [takeDisplacement_valid valid] at displacement
    generalize decide (v.toInt < s.settings.strokeMin ∨ s.settings.strokeMax < v.toInt) = out at displacement ⊢
    have keeps := report_keeps .stroke out (displacementTaken v.toInt s)
    have condition : ((report .stroke out (displacementTaken v.toInt s)).entry .stroke).condition = out :=
      reportWith_condition (by simp) (by simp) true out _
    refine ⟨_, displacement, keeps.displacement, condition,
      fun d hd => reportWith_unload_entry_other true out rfl (by simp) hd, keeps.load, keeps.setpoint, keeps.strain,
      keeps.entries, fun held rises => ?_, fun held => ?_⟩
    · obtain rfl : out = true := condition.symm.trans rises
      refine ⟨report_rise_latched (by simp) true held, fun moving hl => ?_, fun resting => ?_⟩
      · exact reportWith_rise_unloads rfl moving held hl
      · have only := reportWith_at_rest (c := .stroke) true true (s := displacementTaken v.toInt s) resting rfl
          (by simp [classOf])
        exact (congrArg State.posture only.frame).trans rfl
    · have still := report_of_held (s := displacementTaken v.toInt s) (held.trans condition)
      rw [still]
      exact ⟨rfl, rfl⟩

end Sys2Proof.ServoIntake

/-! ## The reads, and CLEAR PEAK (R51, R92, R110, R150, R162, R176, R191, R195, R196) -/

namespace Sys2Proof.ServoIntake

open Sys2Proof Sys2Proof.Machine Sys2Proof.Laws Sys2Proof.Safety Sys2Proof.Claims Sys2Proof.Postures

/-- A command whose work leaves the host's lines answers, and changes what its body changed and the link's exchange
(R187). -/
theorem exec_answered {c : Instr} {code : Byte} {body : State → State × Reply} {s u : State} {r : Reply}
    (he : exec c s = .next (sendCommand c body s)) (hc : commandCode c = some code) (h : Ready s)
    (hb : body s = (u, r)) (host : SameHost s.link u.link) :
    ∃ t, exec c s = .next t ∧ Answered s u t ∧ Answers code r.code r.data t :=
  ⟨_, exec_of_body he hc h hb, answered_afterReply host, afterReply_answers c code r u⟩

@[simp] theorem causeBytes_length (c : Option Cause) : (causeBytes c).length = 2 := by cases c <;> simp [causeBytes]

/-- The status record has the 64 bytes of 11.4 in every state. -/
theorem statusRecord_length (s : State) : (statusRecord s).length = 64 := by
  unfold statusRecord
  simp only [List.length_append]
  simp only [be_length, causeBytes_length, List.length_map, List.length_finRange, List.length_singleton]

/-- READ HITS tells of the crack unit alone (R176). -/
theorem hitsData_congr {s t : State} (h : t.crack = s.crack) (removed : List HitRecord) :
    hitsData removed t = hitsData removed s := by
  rw [hitsData, hitsData, h]

/-- READ NOTICES tells of the notice queue alone (R191). -/
theorem noticesData_congr {s t : State} (h : t.link.notices = s.link.notices) (removed : List NoticeEntry) :
    noticesData removed t = noticesData removed s := by
  rw [noticesData, noticesData, h]

/-- CLEAR PEAK is accepted in IDLE and HOLD (R51, 10.2). -/
theorem cmdClearPeak_accepted {s : State} (hp : s.posture = .idle ∨ s.posture = .hold) :
    cmdClearPeak s = accept (clearPeak s) [] := by
  obtain hp | hp := hp <;> rw [cmdClearPeak, hp]

/-- Settles O30: six bodies leave the state as it is, and each of the other four changes one field. -/
theorem readsTakeAwayTheirOwnAlone : Obligations.ReadsTakeAwayTheirOwnAlone := by
  intro s ready
  have reads {c : Instr} {code : Byte} {body : State → State × Reply} {data : List Byte}
      (he : exec c s = .next (sendCommand c body s)) (hc : commandCode c = some code)
      (hb : body s = accept s data) : AnswersOnly c code .ok data s :=
    answersOnly_of_body (r := ⟨.ok, data⟩) he hc ready hb
  refine ⟨reads rfl rfl rfl, reads rfl rfl rfl, reads rfl rfl rfl, reads rfl rfl rfl, reads rfl rfl rfl,
    reads rfl rfl rfl, statusRecord_length s, ?_, ?_, ?_, fun hp => ?_⟩
  · obtain ⟨t, run, answered, answers⟩ := exec_answered (c := .readLine) (body := cmdReadLine) rfl rfl ready rfl
      (sameHost_refl _)
    exact ⟨t, run, answers, answered.notices, answered.frame⟩
  · obtain ⟨t, run, answered, answers⟩ := exec_answered (c := .readHits) (body := cmdReadHits) rfl rfl ready rfl
      (sameHost_refl _)
    refine ⟨t, run, answered.frame, answered.notices, ?_⟩
    rw [hitsData_congr answered.crack]
    exact answers
  · obtain ⟨t, run, answered, answers⟩ := exec_answered (c := .readNotices) (body := cmdReadNotices) rfl rfl ready
      rfl (sameHost_notices (sameHost_refl _) _)
    refine ⟨t, run, answered.frame, answered.notices, ?_⟩
    rw [noticesData_congr answered.notices]
    exact answers
  · obtain ⟨t, run, answered, answers⟩ := exec_answered (c := .clearPeak) rfl rfl ready (cmdClearPeak_accepted hp)
      (sameHost_refl _)
    exact ⟨t, run, answers, answered.notices, answered.frame⟩

end Sys2Proof.ServoIntake

/-! ## Frames of the hall line (R70 to R75, R199) -/

namespace Sys2Proof.HallLine

open Sys2Proof Sys2Proof.Machine Sys2Proof.Laws Sys2Proof.Safety Sys2Proof.Claims Sys2Proof.Postures
open Sys2Proof.LoadProgram

/-! ### Bytes and frames (R72, R75) -/

/-- The kind, length and payload bytes of a frame (R73, R199). -/
def frameParts : FrameBody → Byte × Byte × List Byte
  | .report r => (0x31#8, 13#8, reportPayload r)
  | .holdNotice n => (0x32#8, 4#8, noticePayload n)
  | .unloadNotice n => (0x33#8, 4#8, noticePayload n)

/-- The bytes of a frame before its CRC (R72). -/
def frameHead (f : Frame) : List Byte :=
  syncByte :: (frameParts f.body).1 :: f.source :: (frameParts f.body).2.1 :: (frameParts f.body).2.2

theorem encodeFrame_eq (f : Frame) : encodeFrame f = sealed (frameHead f) := by
  cases f with
  | mk source body => cases body <;> rfl

theorem encodeFrame_length (f : Frame) : (encodeFrame f).length = match f.body with
    | .report _ => 19
    | .holdNotice _ => 10
    | .unloadNotice _ => 10 := by
  cases f with
  | mk source body => cases body <;> rfl

theorem encodeFrame_ne_nil (f : Frame) : encodeFrame f ≠ [] := by
  simp [encodeFrame_eq, frameHead, sealed]

@[simp] theorem encodeFrame_head (f : Frame) : (encodeFrame f).head? = some syncByte := by
  simp [encodeFrame_eq, frameHead, sealed]

/-- A frame's length is told by its fourth byte (R74). -/
theorem frameLength_encodeFrame (f : Frame) : frameLength (encodeFrame f) = some (encodeFrame f).length := by
  cases f with
  | mk source body => cases body <;> rfl

theorem decodePayload_frameParts (b : FrameBody) :
    decodePayload (frameParts b).1 (frameParts b).2.1 (frameParts b).2.2 = some b := by
  cases b with
  | report r =>
    have payload : decodePayload 0x31#8 13#8 (reportPayload r) = some (.report { r with
        progress := join4 (r.progress.extractLsb' 24 8) (r.progress.extractLsb' 16 8) (r.progress.extractLsb' 8 8)
          (r.progress.extractLsb' 0 8)
        load := join3 (r.load.extractLsb' 16 8) (r.load.extractLsb' 8 8) (r.load.extractLsb' 0 8) }) := rfl
    rw [join4_bytes, join3_bytes] at payload
    exact payload
  | holdNotice n => rfl
  | unloadNotice n => rfl

/-- A frame from an id other than 0 stands the four tests (R75). -/
theorem judgeFrame_encodeFrame {f : Frame} (h0 : f.source ≠ 0#8) : judgeFrame (encodeFrame f) = .good f := by
  obtain ⟨covered, check, -⟩ := sealed_split (frameHead f)
  rw [encodeFrame_eq, judgeFrame, covered, check, if_neg (by simp)]
  simp only [frameHead, decodePayload_frameParts, if_neg h0]

/-! ### Bit times and characters (R70) -/

theorem frameLevel_preamble (bytes : List Byte) {j : Nat} (h : j < 10) : frameLevel bytes j = false := if_pos h

theorem frameLevel_character {bytes : List Byte} {k j : Nat} {c : Byte} (hc : bytes[k]? = some c) (h : j < 10) :
    frameLevel bytes (10 * (k + 1) + j) = characterLevel c j := by
  have place : (10 * (k + 1) + j) / 10 - 1 = k := by omega
  have bit : (10 * (k + 1) + j) % 10 = j := by omega
  unfold frameLevel
  rw [if_neg (by omega), place, bit, hc]

/-- The bits of a number put together from a list of levels, the least significant first, mark for 1. -/
theorem testBit_levels (levels : List Bool) (i : Nat) :
    (levels.foldr (fun (space : Bool) n => (if space then 0 else 1) + 2 * n) 0).testBit i =
      (levels[i]?.map Bool.not).getD false := by
  induction levels generalizing i with
  | nil => simp
  | cons b bs ih =>
    cases i with
    | zero => cases b <;> simp [Nat.testBit_zero]
    | succ i =>
      have half (n : Nat) : ((if b then 0 else 1) + 2 * n) / 2 = n := by split <;> omega
      rw [List.foldr_cons, Nat.testBit_succ, half, ih, List.getElem?_cons_succ]

/-- Data bits at a byte's levels are read as the byte, whatever start and stop bit stand around them (R70, R74). -/
theorem takenByte_of_data {bits : List Bool} {c : Byte}
    (h : (bits.drop 1).take 8 = (List.range 8).map fun i => !c.getLsbD i) : takenByte bits = c := by
  apply BitVec.eq_of_getLsbD_eq
  intro i hi
  rw [takenByte, h, BitVec.getLsbD_ofNat, testBit_levels]
  simp [hi]

/-- Settles O8: the frames by their parts, the attempt's bit times by quotient and remainder. -/
theorem frameRoundTrip : Obligations.FrameRoundTrip :=
  ⟨fun f h0 => ⟨judgeFrame_encodeFrame h0, frameLength_encodeFrame f, encodeFrame_length f⟩,
    fun bytes _ _ _ => ⟨frameLevel_preamble bytes, frameLevel_character, rfl, rfl, takenByte_of_data rfl⟩⟩

end Sys2Proof.HallLine

/-! ## Attempts, waits and the own break (R79 to R88) -/

namespace Sys2Proof.HallLine

open Sys2Proof Sys2Proof.Machine Sys2Proof.Laws Sys2Proof.Safety Sys2Proof.Claims Sys2Proof.Postures
open Sys2Proof.LoadProgram

/-! ### The start of an attempt (R79 to R81) -/

theorem startAttempt_out_of_defer {s : State} (h : s.line.tx ≠ .defer) : startAttempt s = s := by
  unfold startAttempt
  split
  next ht _ => exact absurd ht h
  · rfl

/-- The counts of a pending slot with one more attempt (R81, R86). -/
def attempted (k : SlotCounts) : SlotCounts := { k with attempts := k.attempts + 1 }

/-- The line with an attempt at a slot begun (R70, R76, R81). -/
def attemptLine (n : SlotName) (s : State) : Line :=
  { seizeDriver (setSlotCounts n (attempted (slotCounts s.line n)) (returnToMark s.line)) with
    tx := .sending ⟨n, attempted (slotCounts s.line n), encodeFrame (frameOf n s), 0⟩ }

theorem startAttempt_in_defer {s : State} {n : SlotName} (ht : s.line.tx = .defer)
    (hn : firstPending s.line = some n) : startAttempt s = setLine (attemptLine n s) s := by
  unfold startAttempt
  rw [ht, hn]
  rfl

theorem attemptLine_slots (n : SlotName) (s : State) :
    (attemptLine n s).unloadSlot =
      (setSlotCounts n (attempted (slotCounts s.line n)) s.line).unloadSlot ∧
    (attemptLine n s).holdSlot = (setSlotCounts n (attempted (slotCounts s.line n)) s.line).holdSlot ∧
    (attemptLine n s).reportSlot = (setSlotCounts n (attempted (slotCounts s.line n)) s.line).reportSlot := by
  obtain ⟨-, unload, hold, report⟩ := returnToMark_traffic s.line
  cases n <;> simp [attemptLine, setSlotCounts, unload, hold, report]

/-- The flags byte of a REPORT (R73). -/
theorem flagByte_eq (paced starved derated : Bool) : flagByte paced starved derated =
    (if paced then 1#8 else 0#8) ||| (if starved then 2#8 else 0#8) ||| (if derated then 4#8 else 0#8) := rfl

/-- The first cause of a REPORT is 0 but in UNLOAD and SAFE (R73). -/
theorem reportOf_cause_in_work {s : State} (h : s.posture = .run ∨ s.posture = .hold ∨ s.posture = .idle) :
    (reportOf s).cause = 0#8 := by
  obtain h | h | h := h <;> simp [reportOf, h]

/-- In UNLOAD and SAFE it is that of the unload record (R73). -/
theorem reportOf_cause_unloaded {s : State} {u : UnloadRecord} (h : s.posture = .unload ∨ s.posture = .safe)
    (hu : s.unloadRecord = some u) : (reportOf s).cause = BitVec.ofNat 8 u.cause.kindCode := by
  obtain h | h := h <;> simp [reportOf, h, hu]

/-- Settles O48, slot by slot. -/
theorem attemptStartDrivesTheFirstPendingSlot : Obligations.AttemptStartDrivesTheFirstPendingSlot := by
  intro s
  have row : exec .attemptStart s = .next (startAttempt s) := rfl
  refine ⟨fun ht => by rw [row, startAttempt_out_of_defer ht], fun ht => ⟨fun c k hu => ?_, fun c k hu hh => ?_,
    fun k hu hh hr => ?_⟩⟩
  · obtain ⟨unload, hold, report⟩ := attemptLine_slots .unload s
    rw [startAttempt_in_defer (n := .unload) ht (by simp [firstPending, hu])] at row
    refine ⟨_, row, rfl, ?_, hold, report, rfl, ?_⟩
    · simp [unload, setSlotCounts, slotCounts, hu, attempted]
    · simp [attemptLine, slotCounts, frameOf, hu, attempted]
  · obtain ⟨unload, hold, report⟩ := attemptLine_slots .hold s
    rw [startAttempt_in_defer (n := .hold) ht (by simp [firstPending, hu, hh])] at row
    refine ⟨_, row, rfl, ?_, unload, report, rfl, ?_⟩
    · simp [hold, setSlotCounts, slotCounts, hh, attempted]
    · simp [attemptLine, slotCounts, frameOf, hh, attempted]
  · obtain ⟨unload, hold, report⟩ := attemptLine_slots .report s
    rw [startAttempt_in_defer (n := .report) ht (by simp [firstPending, hu, hh, hr])] at row
    refine ⟨_, reportOf s, row, rfl, ?_, unload, hold, rfl, ?_, rfl, rfl, rfl, rfl, rfl, rfl, flagByte_eq _ _ _,
      reportOf_cause_in_work, fun u => reportOf_cause_unloaded⟩
    · simp [report, setSlotCounts, slotCounts, hr, attempted]
    · simp [attemptLine, slotCounts, frameOf, hr, attempted]

/-! ### The ends of an attempt (R80, R82 to R86) -/

theorem slotAfterAttempt_eq (keep : Option SlotCounts) (slot : NoticeSlot) :
    slotAfterAttempt keep slot = leftInSlot keep slot := by
  obtain ⟨pending, successor⟩ := slot
  cases successor <;> cases keep <;> cases pending <;> rfl

theorem reportAfterAttempt_eq (keep slot : Option SlotCounts) : reportAfterAttempt keep slot = leftReport keep slot := by
  cases slot <;> rfl

/-- The slots at an attempt's end (R80, R82, R83). -/
theorem endAttempt_slotsAfter (slot : SlotName) (keep : Option SlotCounts) (l : Line) :
    SlotsAfter slot keep l (endAttempt slot keep l) := by
  cases slot <;> simp [SlotsAfter, endAttempt, slotAfterAttempt_eq, reportAfterAttempt_eq]

/-- What happens to the slots of a line happens to those of another with the same slots. -/
theorem slotsAfter_of_traffic {slot : SlotName} {keep : Option SlotCounts} {a l b : Line} (h : SameTraffic a l)
    (k : SlotsAfter slot keep l b) : SlotsAfter slot keep a b := by
  rw [SlotsAfter, ← h.unloadSlot, ← h.holdSlot, ← h.reportSlot]
  exact k

section
variable (slot : SlotName) (keep : Option SlotCounts) (l : Line)

@[simp] theorem endAttempt_generator : (endAttempt slot keep l).generator = l.generator := by cases slot <;> rfl

@[simp] theorem endAttempt_dropped : (endAttempt slot keep l).dropped = l.dropped := by cases slot <;> rfl

@[simp] theorem endAttempt_lateCollision : (endAttempt slot keep l).lateCollision = l.lateCollision := by
  cases slot <;> rfl

end

@[simp] theorem told_dropped (space carrier : Bool) (l : Line) : (l.told space carrier).dropped = l.dropped := by
  unfold Line.told; split <;> rfl

/-- A driver released to rest leaves its slots to the next attempt (R69, R76, R79). -/
theorem releaseToRest_released (s : State) (l : Line) : Released s (setLine (releaseToRest s.settings.stationId l) s) :=
  ⟨rfl, rfl, rfl, rfl⟩

/-- The generator's next value in whole numbers (R85). -/
theorem nextGenerator_eq (g : BitVec 16) : nextGenerator g = BitVec.ofNat 16 ((g.toNat * 25173 + 13849) % 65536) := by
  apply BitVec.eq_of_toNat_eq
  simp [nextGenerator, BitVec.toNat_add, BitVec.toNat_mul]

/-! ### Contention (R83 to R86) -/

section
variable {bit : Nat} {s : State} {f : Flight} (hf : s.line.tx = .sending f)
include hf

theorem contend_late (h : 50 ≤ bit) : contend bit s = lateCollide f (hearContention s) := by
  unfold contend
  rw [hf]
  exact if_pos h

theorem contend_drops (h : bit < 50) (ha : 16 ≤ f.counts.attempts) :
    contend bit s = dropFrame f (hearContention s) := by
  unfold contend
  rw [hf]
  exact (if_neg (Nat.not_le.mpr h)).trans (if_pos ha)

theorem contend_backs_off (h : bit < 50) (ha : f.counts.attempts < 16) :
    contend bit s = backOff f (hearContention s) := by
  unfold contend
  rw [hf]
  exact (if_neg (Nat.not_le.mpr h)).trans (if_neg (Nat.not_le.mpr ha))

end

/-- The counts of a frame after one more collision (R83). -/
def collided (f : Flight) : SlotCounts := { f.counts with collisions := f.counts.collisions + 1 }

/-- The line after a collision, its back-off drawn (R84, R85). -/
@[irreducible] def drawnLine (f : Flight) (l : Line) : Line :=
  { endAttempt f.slot (some (collided f)) l with generator := nextGenerator l.generator }

theorem drawnLine_dropped (f : Flight) (l : Line) : (drawnLine f l).dropped = l.dropped := by simp [drawnLine]

theorem drawnLine_generator (f : Flight) (l : Line) : (drawnLine f l).generator = nextGenerator l.generator := by
  simp [drawnLine]

theorem drawnLine_slotsAfter (f : Flight) (l : Line) : SlotsAfter f.slot (some (collided f)) l (drawnLine f l) := by
  unfold drawnLine
  exact endAttempt_slotsAfter f.slot (some (collided f)) l

/-- The bit times a back-off draws (R84). -/
def drawnWait (f : Flight) (l : Line) : Nat := drawSlots (collided f).collisions l.generator * 256

/-- A collision of a station with an id draws a back-off, and one of 0 slot times is over at once (R83, R84). -/
theorem backOff_draws {f : Flight} {s : State} (h : s.settings.stationId ≠ 0) : backOff f s =
    if drawnWait f s.line = 0 then setLine (releaseToRest s.settings.stationId (drawnLine f s.line)) s
    else setLine { releaseDriver (drawnLine f s.line) with tx := .backoff, wait := drawnWait f s.line } s := by
  unfold backOff
  simp only [if_neg h, endAttempt_generator, drawnLine]
  rfl

/-- Settles O49, by the bit time and the attempt count. -/
theorem contentionEndsTheAttempt : Obligations.ContentionEndsTheAttempt := by
  intro bit s f g wait hf hg hw
  have row : exec (.contention bit) s = .next (contend bit s) := rfl
  have traffic : SameTraffic s.line (hearContention s).line := told_traffic _ _ _
  have slots (keep : Option SlotCounts) :
      SlotsAfter f.slot keep s.line (endAttempt f.slot keep (hearContention s).line) :=
    slotsAfter_of_traffic traffic (endAttempt_slotsAfter f.slot keep _)
  have generator : (hearContention s).line.generator = s.line.generator := told_generator _ _ _
  have dropped : (hearContention s).line.dropped = s.line.dropped := told_dropped _ _ _
  refine ⟨fun late => ?_, fun early last => ?_, fun early few named => ?_⟩
  · rw [contend_late hf late] at row
    exact ⟨_, row, rfl, releaseToRest_released s _, slots none, rfl, (endAttempt_generator _ _ _).trans generator⟩
  · rw [contend_drops hf early last] at row
    exact ⟨_, row, rfl, releaseToRest_released s _, slots none, rfl, (endAttempt_generator _ _ _).trans generator⟩
  · have drawn : nextGenerator s.line.generator = g := by rw [hg, nextGenerator_eq]
    have kept : SlotsAfter f.slot (some (collided f)) s.line (drawnLine f (hearContention s).line) :=
      slotsAfter_of_traffic traffic (drawnLine_slotsAfter f _)
    have waits : drawnWait f (hearContention s).line = wait := by
      rw [hw, ← drawn]
      simp only [drawnWait, drawSlots, collided, generator]
    have drops : (drawnLine f (hearContention s).line).dropped = s.line.dropped :=
      (drawnLine_dropped f _).trans dropped
    have draws : (drawnLine f (hearContention s).line).generator = g := by
      rw [drawnLine_generator, generator, drawn]
    rw [contend_backs_off hf early few, backOff_draws (by exact named), waits] at row
    by_cases h0 : wait = 0
    · rw [if_pos h0] at row
      exact ⟨_, row, rfl, draws, kept, rfl, rfl, drops, fun _ => releaseToRest_released s _, fun h => absurd h0 h⟩
    · rw [if_neg h0] at row
      exact ⟨_, row, rfl, draws, kept, rfl, rfl, drops, fun h => absurd h h0, fun _ => ⟨rfl, rfl⟩⟩

/-! ### The other ends (R82, R84, R88) -/

theorem finishAttempt_of_sending {s : State} {f : Flight} (hf : s.line.tx = .sending f) :
    finishAttempt s = setLine (releaseToRest s.settings.stationId (endAttempt f.slot none s.line)) s := by
  unfold finishAttempt
  rw [hf]

theorem endBackoff_of_waiting {s : State} (h : s.line.tx = .backoff) : endBackoff s =
    setLine { s.line with wait := 0, tx := restTx s.settings.stationId { s.line with wait := 0 } } s := by
  unfold endBackoff
  rw [h]

/-- The station rests in DEFER exactly where it has an id and a slot pending (R79). -/
theorem restTx_cases (id : Nat) (l : Line) :
    (restTx id l = .defer ∨ restTx id l = .quiet) ∧ (restTx id l = .defer ↔ id ≠ 0 ∧ l.anyPending = true) := by
  unfold restTx
  split
  next h => exact ⟨.inl rfl, fun _ => h, fun _ => rfl⟩
  next h => exact ⟨.inr rfl, (nomatch ·), fun k => absurd k h⟩

section
variable {s : State} {b : Nat} (h : s.line.tx = .breaking b)
include h

theorem endBackoff_of_breaking : endBackoff s = setLine { s.line with wait := 0 } s := by
  unfold endBackoff
  rw [h]

theorem contend_of_breaking (bit : Nat) : contend bit s = s := by
  unfold contend
  rw [h]

theorem endBreak_of_breaking : endBreak s =
    if s.line.wait = 0 then setLine (releaseToRest s.settings.stationId s.line) s
    else setLine { releaseDriver s.line with tx := .backoff } s := by
  unfold endBreak
  rw [h]

end

/-- Settles O50, by the transmitter's state. -/
theorem attemptsWaitsAndBreaksEnd : Obligations.AttemptsWaitsAndBreaksEnd := by
  intro bit s
  have sent : exec .frameSent s = .next (finishAttempt s) := rfl
  have waited : exec .backoffEnd s = .next (endBackoff s) := rfl
  have broke : exec .breakEnd s = .next (endBreak s) := rfl
  have met : exec (.contention bit) s = .next (contend bit s) := rfl
  refine ⟨fun f hf => ?_, fun ht => ?_, fun b hb => ?_⟩
  · rw [finishAttempt_of_sending hf] at sent
    exact ⟨_, sent, rfl, releaseToRest_released s _, endAttempt_slotsAfter f.slot none s.line,
      endAttempt_generator _ _ _, endAttempt_dropped _ _ _, endAttempt_lateCollision _ _ _⟩
  · rw [endBackoff_of_waiting ht] at waited
    have rests := restTx_cases s.settings.stationId { s.line with wait := 0 }
    exact ⟨_, waited, rfl, rests.1, rests.2⟩
  · rw [endBackoff_of_breaking hb] at waited
    rw [contend_of_breaking hb] at met
    rw [endBreak_of_breaking hb] at broke
    refine ⟨waited, met, fun h0 => ?_, fun h0 => ?_⟩
    · rw [if_pos h0] at broke
      exact ⟨_, broke, rfl, releaseToRest_released s _, rfl, rfl, rfl⟩
    · rw [if_neg h0] at broke
      exact broke

end Sys2Proof.HallLine

/-! ## Reception: characters, broken frames and the receiver's events (R71, R74 to R77, R90) -/

namespace Sys2Proof.HallLine

open Sys2Proof Sys2Proof.Machine Sys2Proof.Laws Sys2Proof.Safety Sys2Proof.Claims Sys2Proof.Postures
open Sys2Proof.LoadProgram Sys2Proof.ServoIntake

/-! ### What the characters leave on the line (R69, R71) -/

/-- Characters touch the noise flag, the frame in reception, and what the line shows of the other drivers (R71; log
6). -/
theorem lineAfterChars_eq (chars : List Byte) (stop : StopBit) (noisy : Bool) (l : Line) :
    lineAfterChars chars stop noisy l = { l with
      noise := l.noise || noisy, taking := none, space := (lineAfterChars chars stop noisy l).space
      carrier := (lineAfterChars chars stop noisy l).carrier
      idleCount := (lineAfterChars chars stop noisy l).idleCount
      spaceCount := (lineAfterChars chars stop noisy l).spaceCount } := by
  unfold lineAfterChars Line.told
  simp only
  split <;> rfl

section
variable (chars : List Byte) (stop : StopBit) (noisy : Bool) (l : Line)

@[simp] theorem lineAfterChars_tx : (lineAfterChars chars stop noisy l).tx = l.tx := by rw [lineAfterChars_eq]
@[simp] theorem lineAfterChars_rx : (lineAfterChars chars stop noisy l).rx = l.rx := by rw [lineAfterChars_eq]
@[simp] theorem lineAfterChars_noise : (lineAfterChars chars stop noisy l).noise = (l.noise || noisy) := by
  rw [lineAfterChars_eq]
@[simp] theorem lineAfterChars_framing : (lineAfterChars chars stop noisy l).framing = l.framing := by
  rw [lineAfterChars_eq]
@[simp] theorem lineAfterChars_crcError : (lineAfterChars chars stop noisy l).crcError = l.crcError := by
  rw [lineAfterChars_eq]
@[simp] theorem lineAfterChars_formatError : (lineAfterChars chars stop noisy l).formatError = l.formatError := by
  rw [lineAfterChars_eq]
@[simp] theorem lineAfterChars_driving : (lineAfterChars chars stop noisy l).driving = l.driving := by
  simp [Line.driving]

end

/-- The station with characters taken in and not yet judged (R69, R71). -/
def afterChars (chars : List Byte) (stop : StopBit) (noisy : Bool) (s : State) : State :=
  setLine (lineAfterChars chars stop noisy s.line) s

/-! ### Who takes characters (R74, R76) -/

section
variable {chars : List Byte} (stop : StopBit) (noisy : Bool) {s : State}

theorem receiveChars_driving (chars : List Byte) (h : s.line.driving = true) :
    receiveChars chars stop noisy s = s := if_pos (.inl h)

theorem receiveChars_waiting (hd : s.line.driving = false) (hr : s.line.rx = .waiting) (hc : chars ≠ []) :
    receiveChars chars stop noisy s = afterChars chars stop noisy s := by
  rw [receiveChars, if_neg (by simp [hd, hc]), hr]
  rfl

theorem receiveChars_listening (h : Listens s) (hc : chars ≠ []) :
    receiveChars chars stop noisy s = takeChars chars stop (afterChars chars stop noisy s) := by
  rw [receiveChars, if_neg (by simp [h.1, hc]), h.2]
  rfl

end

/-! ### What becomes of the characters (R74, R75) -/

section
variable {chars : List Byte} (h : chars.head? = some syncByte) (s : State)
include h

/-- A frame that reached its length is judged (R74). -/
theorem takeChars_whole (hl : frameLength chars = some chars.length) : takeChars chars .mark s = takeFrame chars s := by
  rw [takeChars, if_neg (by simp [h]), if_neg (by simp), hl]
  simp

/-- Characters that stop short of the frame's length are a framing error (R74). -/
theorem takeChars_short (hl : ∀ n, frameLength chars = some n → chars.length < n) :
    takeChars chars .mark s = setLine { s.line with rx := .waiting, framing := true } s := by
  rw [takeChars, if_neg (by simp [h]), if_neg (by simp)]
  split
  next n hn => exact if_neg (Nat.not_le.mpr (hl n hn))
  · rfl

/-- A stop bit at space waits for the line's return to mark (R74, R90). -/
theorem takeChars_broken :
    takeChars chars .space s = setLine { s.line with rx := .waiting, framingPending := true } s := by
  rw [takeChars, if_neg (by simp [h]), if_pos rfl]

end

theorem takeFrame_badCrc {bytes : List Byte} (h : judgeFrame bytes = .badCrc) (s : State) :
    takeFrame bytes s = setLine { s.line with crcError := true } s := by rw [takeFrame, h]

theorem takeFrame_badFormat {bytes : List Byte} (h : judgeFrame bytes = .badFormat) (s : State) :
    takeFrame bytes s = setLine { s.line with formatError := true } s := by rw [takeFrame, h]

/-! ### The return to mark (R74, R90) -/

/-- The line returned to mark (R74, R90; log 6). -/
theorem returnToMark_eq (l : Line) : returnToMark l = { l with
    space := l.tapped && l.space, carrier := l.tapped && l.carrier
    spaceCount := if l.tapped then l.spaceCount else 0
    framing := l.framing || l.framingPending, framingPending := false } := by
  unfold returnToMark Line.told
  cases h : l.tapped <;> simp [h]

theorem markReturned_listening {s : State} (h : s.line.driving = false) :
    markReturned s = setLine (returnToMark s.line) s := if_neg (by simp [h])

/-- Settles O53, by the kind of break. -/
theorem brokenFramesSetTheirFlag : Obligations.BrokenFramesSetTheirFlag := by
  intro chars stop noisy s
  have row : exec (.frameReceived chars stop noisy) s = .next (receiveChars chars stop noisy s) := rfl
  refine ⟨fun hd => by rw [row, receiveChars_driving stop noisy chars hd], fun hs hh => ?_⟩
  have filled : chars ≠ [] := fun e => by simp [e] at hh
  rw [receiveChars_listening stop noisy hs filled] at row
  refine ⟨?_, ?_, ?_, ?_⟩
  · rintro rfl hl hj
    rw [takeChars_whole hh _ hl, takeFrame_badCrc hj] at row
    refine ⟨_, row, rfl, rfl, ?_, ?_, ?_, ?_⟩ <;> simp [afterChars, hs.2]
  · rintro rfl hl hj
    rw [takeChars_whole hh _ hl, takeFrame_badFormat hj] at row
    refine ⟨_, row, rfl, rfl, ?_, ?_, ?_, ?_⟩ <;> simp [afterChars, hs.2]
  · rintro rfl hl
    rw [takeChars_short hh _ hl] at row
    exact ⟨_, row, rfl, rfl, rfl⟩
  · rintro rfl
    rw [takeChars_broken hh] at row
    have quiet : (setLine { (afterChars chars .space noisy s).line with rx := .waiting, framingPending := true }
        (afterChars chars .space noisy s)).line.driving = false :=
      (lineAfterChars_driving chars .space noisy s.line).trans hs.1
    refine ⟨_, _, row, rfl, by simp [afterChars], rfl, congrArg Host.Outcome.next (markReturned_listening quiet), rfl,
      ?_⟩
    simp [returnToMark]

/-! ### A pulse of an EDGE entry of class UNLOAD (R6, R13, R16, R76, R90) -/

/-- What a pulse of a clear entry of class UNLOAD brings. -/
structure Unloaded (c : Cause) (s t : State) : Prop where
  latched : (t.entry c).latched = true
  condition : (t.entry c).condition = false
  others : ∀ d, d ≠ c → t.entry d = s.entry d
  moves : s.posture = .run ∨ s.posture = .hold → t.posture = .unload ∧
    t.unloadRecord = some ⟨c, s.posture, s.time, s.servo.target, s.loadNow, [], 0, .pending⟩
  stays : s.posture = .idle ∨ s.posture = .unload ∨ s.posture = .safe → t.posture = s.posture
  rx : t.line.rx = s.line.rx
  framing : t.line.framing = s.line.framing
  breakHeard : t.line.breakHeard = s.line.breakHeard

@[simp] theorem settleTx_rx (id : Nat) (l : Line) : (settleTx id l).rx = l.rx := by rw [settleTx_eq]
@[simp] theorem settleTx_framing (id : Nat) (l : Line) : (settleTx id l).framing = l.framing := by rw [settleTx_eq]
@[simp] theorem settleTx_breakHeard (id : Nat) (l : Line) : (settleTx id l).breakHeard = l.breakHeard := by
  rw [settleTx_eq]

section
variable (c : Cause) (s : State)

@[simp] theorem enterUnload_rx : (enterUnload c s).line.rx = s.line.rx := by
  simp [enterUnload, placeUnloadNotice, dropDemand, emptyHoldSlot]
@[simp] theorem enterUnload_framing : (enterUnload c s).line.framing = s.line.framing := by
  simp [enterUnload, placeUnloadNotice, dropDemand, emptyHoldSlot]
@[simp] theorem enterUnload_breakHeard : (enterUnload c s).line.breakHeard = s.line.breakHeard := by
  simp [enterUnload, placeUnloadNotice, dropDemand, emptyHoldSlot]

end

/-- A latch of class UNLOAD that asks for no break leaves the receiver alone (R13). -/
theorem latch_unload_receiver {c : Cause} {s : State} (hcls : classOf s.settings c = .unload)
    (hb : hallStopOf s.settings c = false) (hf : c ≠ .following) : (latch c s).line.rx = s.line.rx ∧
      (latch c s).line.framing = s.line.framing ∧ (latch c s).line.breakHeard = s.line.breakHeard := by
  have marked : (latchMarked c s).line = s.line := latchMarked_line hb
  obtain ⟨-, e⟩ | ⟨-, e⟩ | ⟨-, e⟩ := latch_unload_cases hcls hf <;> simp [e, marked]

theorem pulse_unloaded {c : Cause} {s : State} (hm : modeOf s.settings c = .edge)
    (hcls : classOf s.settings c = .unload) (hb : hallStopOf s.settings c = false) (hf : c ≠ .following)
    (hc : (s.entry c).condition = false) (hl : (s.entry c).latched = false) : Unloaded c s (pulse c s) := by
  obtain ⟨rx, framing, breakHeard⟩ := latch_unload_receiver (s := withCondition c true s) hcls hb hf
  have others (d : Cause) (hd : d ≠ c) : (latch c (withCondition c true s)).entry d = s.entry d := by
    rw [latch_unload_entry_other (by simpa using hcls) hf hd, withCondition_entry, if_neg hd]
  rw [pulse_of_clear hm hc hl]
  refine ⟨by simp [withCondition_entry, latch_latched], by simp [withCondition_entry],
    fun d hd => by rw [withCondition_entry, if_neg hd, others d hd], fun hp => ?_, fun hp => ?_, rx, framing, breakHeard⟩
  · have enters := latch_unload_enters (s := withCondition c true s) (by simpa using hcls) (by simpa using hp)
    simp [enters]
  · obtain ⟨-, e⟩ | ⟨hq, -⟩ | ⟨-, e⟩ := latch_unload_cases (s := withCondition c true s) (by simpa using hcls) hf
    · simp [e]
    · simp only [withCondition_posture] at hq
      obtain hq | hq := hq <;> simp [hq] at hp
    · simp [e]

/-! ### The receiver's own events (R71, R74, R76, R90) -/

section
variable {s : State} (hd : s.line.driving = false)
include hd

theorem resumeHunt_of_waiting (hr : s.line.rx = .waiting) : resumeHunt s =
    setLine { returnToMark s.line with rx := .hunting, taking := none, idleCount := max s.line.idleCount 10 } s := by
  rw [resumeHunt, if_neg (by simp [hd]), hr]
  rfl

theorem resumeHunt_of_hunting (hr : s.line.rx = .hunting) : resumeHunt s = s := by
  rw [resumeHunt, if_neg (by simp [hd]), hr]

theorem falseStarted_of_hunting (noisy : Bool) (hr : s.line.rx = .hunting) :
    falseStarted noisy s = setLine { s.line with noise := s.line.noise || noisy } s := by
  rw [falseStarted, if_neg (by simp [hd]), hr]

end

/-- The line at a recognised break (R90; log 6). -/
def breakLine (l : Line) : Line :=
  { l.told true true with
    rx := .waiting, taking := none, framingPending := false, breakHeard := true
    idleCount := if l.tapped then l.idleCount else 0, spaceCount := max l.spaceCount 30 }

theorem recogniseBreak_listening {s : State} (h : s.line.driving = false) :
    recogniseBreak s = pulse .hallBreak (setLine (breakLine s.line) s) := if_neg (by simp [h])

@[simp] theorem told_framing (space carrier : Bool) (l : Line) : (l.told space carrier).framing = l.framing := by
  unfold Line.told; split <;> rfl

/-- Settles O54, event by event. -/
theorem receiverEventsActOnTheLine : Obligations.ReceiverEventsActOnTheLine := by
  intro noisy s hd
  have hunts : exec .receiverHuntResume s = .next (resumeHunt s) := rfl
  have starts : exec (.falseStart noisy) s = .next (falseStarted noisy s) := rfl
  have returns : exec .lineReturnsToMark s = .next (markReturned s) := rfl
  have breaks : exec .breakRecognised s = .next (recogniseBreak s) := rfl
  refine ⟨fun hr => ?_, fun hr => ?_, ?_, fun hc hl => ?_⟩
  · rw [resumeHunt_of_waiting hd hr] at hunts
    exact ⟨_, hunts, rfl, rfl, Nat.le_max_right _ _⟩
  · rw [hunts, starts, resumeHunt_of_hunting hd hr, falseStarted_of_hunting hd noisy hr]
    exact ⟨rfl, rfl⟩
  · rw [returns, markReturned_listening hd, returnToMark_eq]
    rfl
  · rw [recogniseBreak_listening hd] at breaks
    have keeps := pulse_keeps .hallBreak (setLine (breakLine s.line) s)
    have unloaded : Unloaded .hallBreak (setLine (breakLine s.line) s) _ :=
      pulse_unloaded rfl rfl rfl (by simp) hc hl
    exact ⟨_, breaks, unloaded.breakHeard, unloaded.rx, unloaded.framing.trans (told_framing _ _ _), unloaded.latched,
      unloaded.condition, unloaded.others, keeps.entries, keeps.setpoint, unloaded.moves, unloaded.stays⟩

/-! ### Good frames (R77, R96, R101, R102) -/

theorem takeFrame_good {f : Frame} (h0 : f.source ≠ 0#8) (s : State) : takeFrame (encodeFrame f) s =
    if f.source.toNat = s.settings.stationId then pulse .idClash s else takePeerFrame f s := by
  rw [takeFrame, judgeFrame_encodeFrame h0]

/-- A listening receiver hands a good frame to the station: its own id to ID_CLASH, another to the peer table (R75,
R77, R96). -/
theorem frameReceived_good {f : Frame} {s : State} (hs : Listens s) (h0 : f.source ≠ 0#8) :
    exec (.frameReceived (encodeFrame f) .mark false) s =
      .next (if f.source.toNat = s.settings.stationId then pulse .idClash (afterChars (encodeFrame f) .mark false s)
        else takePeerFrame f (afterChars (encodeFrame f) .mark false s)) := by
  have taken : takeChars (encodeFrame f) .mark (afterChars (encodeFrame f) .mark false s) =
      takeFrame (encodeFrame f) (afterChars (encodeFrame f) .mark false s) :=
    takeChars_whole (encodeFrame_head f) _ (frameLength_encodeFrame f)
  show Host.Outcome.next (receiveChars (encodeFrame f) .mark false s) = _
  rw [receiveChars_listening .mark false hs (encodeFrame_ne_nil f), taken, takeFrame_good h0]
  rfl

/-- A notice applied to its entry is the entry written, with the conditions of the table behind it (R101, R102,
R108). -/
theorem applyNotice_applies (before after : Peer) (s : State) :
    peerConditionLaw (applyNotice before after s) ∧ (applyNotice before after s).peers.entries =
      putPeer { after with age := 0, lost := false } s.peers.entries :=
  ⟨evalPeers_peerConditionLaw _, (noticed_keeps _ _ s).entries⟩

/-- A notice frame for its entry, found by its source (R101, R102). -/
theorem takePeerFrame_notice {f : Frame} {n : NoticeFields} {s : State} {e after : Peer}
    (hb : (f.body = .holdNotice n ∧ after = { e with holdCount := n.hold.toNat }) ∨
      (f.body = .unloadNotice n ∧ after = { e with posture := .unload }))
    (he : s.peers.entries.find? (fun x => x.id = f.source.toNat) = some e) :
    takePeerFrame f s = if n.group.toNat = e.group then applyNotice e after s else s := by
  have found : findPeer f.source.toNat s.peers.entries = some e := he
  unfold takePeerFrame
  obtain ⟨hb, rfl⟩ | ⟨hb, rfl⟩ := hb <;> rw [hb, found]

/-- A notice frame with no entry of its group is ignored (R101, R102). -/
theorem takePeerFrame_ignored {f : Frame} {n : NoticeFields} {s : State}
    (hb : f.body = .holdNotice n ∨ f.body = .unloadNotice n)
    (hn : ∀ e, s.peers.entries.find? (fun x => x.id = f.source.toNat) = some e → n.group.toNat ≠ e.group) :
    takePeerFrame f s = s := by
  cases he : s.peers.entries.find? (fun x => x.id = f.source.toNat) with
  | some e =>
    obtain hb | hb := hb
    · rw [takePeerFrame_notice (.inl ⟨hb, rfl⟩) he, if_neg (hn e he)]
    · rw [takePeerFrame_notice (.inr ⟨hb, rfl⟩) he, if_neg (hn e he)]
  | none =>
    have found : findPeer f.source.toNat s.peers.entries = none := he
    unfold takePeerFrame
    obtain hb | hb := hb <;> rw [hb, found]

/-- Settles O52: a notice to its entry, one ignored, the own id, and characters that a waiting receiver lets pass. -/
theorem noticeFramesReachTheirEntry : Obligations.NoticeFramesReachTheirEntry := by
  refine ⟨fun f n s hs h0 => ?_, fun chars stop noisy s hd hr hc => ?_⟩
  · have row := frameReceived_good hs h0
    have reaches {e after : Peer} (hid : f.source.toNat ≠ s.settings.stationId)
        (hb : (f.body = .holdNotice n ∧ after = { e with holdCount := n.hold.toNat }) ∨
          (f.body = .unloadNotice n ∧ after = { e with posture := .unload }))
        (he : s.peers.entries.find? (fun x => x.id = f.source.toNat) = some e) (hg : n.group.toNat = e.group) :
        exec (.frameReceived (encodeFrame f) .mark false) s =
          .next (applyNotice e after (afterChars (encodeFrame f) .mark false s)) := by
      rw [row, if_neg hid, takePeerFrame_notice hb (by exact he), if_pos hg]
    refine ⟨fun e hb hid he hg => ?_, fun e hb hid he hg => ?_, fun hb hid hn => ?_, fun hid hc => ?_⟩
    · exact ⟨_, reaches hid (.inl ⟨hb, rfl⟩) he hg, applyNotice_applies _ _ _⟩
    · exact ⟨_, reaches hid (.inr ⟨hb, rfl⟩) he hg, applyNotice_applies _ _ _⟩
    · rw [if_neg hid, takePeerFrame_ignored hb (by exact hn)] at row
      exact ⟨_, row, rfl⟩
    · rw [if_pos hid] at row
      have keeps := pulse_keeps .idClash (afterChars (encodeFrame f) .mark false s)
      refine ⟨_, row, keeps.entries, ?_⟩
      cases hl : (s.entry .idClash).latched with
      | false =>
        have unloaded : Unloaded .idClash (afterChars (encodeFrame f) .mark false s) _ :=
          pulse_unloaded rfl rfl rfl (by simp) hc hl
        exact ⟨unloaded.latched, unloaded.condition, fun _ hp => (unloaded.moves hp).1⟩
      | true =>
        have still : pulse .idClash (afterChars (encodeFrame f) .mark false s) = _ :=
          pulse_of_latched rfl hc hl (by simp)
        rw [still]
        exact ⟨hl, hc, fun h => nomatch h⟩
  · have row : exec (.frameReceived chars stop noisy) s = .next (receiveChars chars stop noisy s) := rfl
    rw [receiveChars_waiting stop noisy hd hr hc] at row
    exact ⟨_, row, congrArg (fun l => { s with line := l }) (lineAfterChars_eq chars stop noisy s.line)⟩

end Sys2Proof.HallLine

/-! ## One bit time (R69 to R71, R74, R79, R82 to R84, R88, R90; logs 1 and 6) -/

namespace Sys2Proof.HallLine

open Sys2Proof Sys2Proof.Machine Sys2Proof.Laws Sys2Proof.Safety Sys2Proof.Claims Sys2Proof.Postures

/-! ### The step on an empty queue -/

/-- An attempt that may start does so (R79). -/
theorem step_starts {s : State} (hq : s.pending = []) (h : StartsAtOnce s) :
    step s = .next { s with pending := [.attemptStart] } := by
  rw [step, hq]
  exact congrArg Host.Outcome.next (tick_attempt ((attemptDue_iff s.line).mpr h))

/-- The state one bit time on, the host's pause taken (logs 1 and 41). -/
def bitTimeOn (s : State) : State := passBitTime (nextEdge s.link.edges.tail s)

/-- Otherwise, with nothing done on the link's lines, one bit time passes (log 1). -/
theorem step_passes {s : State} (hq : s.pending = []) (h : TimePasses s) : step s = .next (bitTimeOn s) := by
  obtain ⟨rests, idle⟩ := h
  have waits : s.line.attemptDue = false := by
    rw [← Bool.not_eq_true, attemptDue_iff]
    exact rests
  rw [step, hq]
  obtain none | paused := idle
  · have still : nextEdge s.link.edges.tail s = s := by
      rw [none, nextEdge, List.tail_nil, ← none]
    exact congrArg Host.Outcome.next ((tick_advance waits none).trans (by rw [bitTimeOn, still]))
  · obtain ⟨rest, hr⟩ : ∃ rest, s.link.edges = .pause :: rest := by
      cases he : s.link.edges with
      | nil => rw [he] at paused; cases paused
      | cons e rest => rw [he] at paused; cases paused; exact ⟨rest, rfl⟩
    exact congrArg Host.Outcome.next ((tick_pause waits hr).trans (by rw [bitTimeOn, hr]; rfl))

theorem bitTimeOn_line (s : State) : (bitTimeOn s).line = s.line.tick := by simp [bitTimeOn, passBitTime, advance]

theorem bitTimeOn_ports (s : State) (i : Fin 4) :
    (bitTimeOn s).ports[i] = { s.ports[i] with timer := s.ports[i].timer.map (fun left => left - 1) } := by
  simp [bitTimeOn, passBitTime, advance]

/-- What is queued is what falls due, in some order (log 2). -/
theorem mem_bitTimeOn_pending {c : Instr} {s : State} : c ∈ (bitTimeOn s).pending ↔ c ∈ dueEvents s := mem_freeOrder

/-! ### The events that fall due -/

/-- The rows of timer expiries and of the line's own events, each with a place of its own among what falls due. -/
def scheduledRows : List Instr :=
  [.controlPeriodExpiry, .reportPeriodExpiry, .chatterWindowExpiry, .rateWindowExpiry, .hostSilenceExpiry,
    .debounceExpiry 0, .debounceExpiry 1, .debounceExpiry 2, .debounceExpiry 3, .frameSent, .breakEnd, .backoffEnd,
    .receiverHuntResume, .breakRecognised]

/-- The rows that a bit's reading hands over: a receiver's characters or false start, contention, the return to mark. -/
def isHeard : Instr → Bool
  | .frameReceived _ _ _ | .falseStart _ | .contention _ | .lineReturnsToMark => true
  | _ => false

/-- The rows that the receiver hands over (R71, R74). -/
def isReceived : Instr → Bool
  | .frameReceived _ _ _ | .falseStart _ => true
  | _ => false

theorem scheduledRows_nodup : scheduledRows.Nodup := by decide

theorem scheduledRows_unheard : ∀ c ∈ scheduledRows, isHeard c = false ∧ commandCode c = none := by decide

/-- The events of timers and line that fall due, each once. -/
theorem scheduled_sublist (s : State) (b : Bool) (l : Line) :
    (((timerEvents s ++ lineEvents b l).filter Prod.fst).map Prod.snd).Sublist scheduledRows :=
  List.filter_sublist.map Prod.snd

theorem mem_dueEvents {c : Instr} {s : State} : c ∈ dueEvents s ↔
    (true, c) ∈ timerEvents (advance s) ++ lineEvents s.line.contended.isSome s.line.tick ∨ c ∈ s.line.heardEvents := by
  simp [dueEvents, advance, or_assoc]

theorem mem_heardEvents {c : Instr} {l : Line} : c ∈ l.heardEvents ↔
    (∃ b, l.heard.head? = some b ∧ (l.receive b).2 = some c) ∨ (∃ n, l.contended = some n ∧ .contention n = c) ∨
      (l.markDue = true ∧ c = .lineReturnsToMark) := by
  unfold Line.heardEvents
  cases h : l.heard <;> simp

theorem seekStart_received {was : Bool} {b : LineBit} {c : Instr} (h : (seekStart was b).2 = some c) :
    isReceived c = true := by
  unfold seekStart at h
  split at h
  · cases h
  · split at h <;> cases h
    rfl

theorem takeBit_received {r : Reception} {space : Bool} {c : Instr} (h : (takeBit r space).2 = some c) :
    isReceived c = true := by
  unfold takeBit at h
  split at h
  · split at h <;> cases h
    rfl
  · simp only at h
    split at h
    · cases h
    · split at h
      · cases h; rfl
      · split at h <;> cases h
        rfl

/-- A receiver hands over characters or a false start, and nothing else (R71, R74). -/
theorem receive_received {l : Line} {b : LineBit} {c : Instr} (h : (l.receive b).2 = some c) : isReceived c = true := by
  unfold Line.receive at h
  split at h
  · cases h
  · split at h
    · cases h
    · exact seekStart_received h
    · exact takeBit_received h

theorem isHeard_of_received {c : Instr} (h : isReceived c = true) : isHeard c = true ∧ commandCode c = none := by
  match c, h with
  | .frameReceived _ _ _, _ => exact ⟨rfl, rfl⟩
  | .falseStart _, _ => exact ⟨rfl, rfl⟩

theorem heardEvents_heard {c : Instr} {l : Line} (h : c ∈ l.heardEvents) : isHeard c = true ∧ commandCode c = none := by
  obtain ⟨b, -, h⟩ | ⟨n, -, rfl⟩ | ⟨-, rfl⟩ := mem_heardEvents.mp h
  · exact isHeard_of_received (receive_received h)
  · exact ⟨rfl, rfl⟩
  · exact ⟨rfl, rfl⟩

/-- A timer's expiry or an event of the line's own falls due where its place among them says so. -/
theorem scheduled_due {c : Instr} {s : State} (h : isHeard c = false) : c ∈ dueEvents s ↔
    (true, c) ∈ timerEvents (advance s) ++ lineEvents s.line.contended.isSome s.line.tick := by
  rw [mem_dueEvents]
  exact or_iff_left fun k => by simp [(heardEvents_heard k).1] at h

theorem scheduled_of_mem {c : Instr} {s : State} {b : Bool} {l : Line}
    (h : (true, c) ∈ timerEvents s ++ lineEvents b l) : c ∈ scheduledRows :=
  (scheduled_sublist s b l).subset (List.mem_map.mpr ⟨_, List.mem_filter.mpr ⟨h, rfl⟩, rfl⟩)

theorem heard_due {c : Instr} {s : State} (h : isHeard c = true) : c ∈ dueEvents s ↔ c ∈ s.line.heardEvents := by
  rw [mem_dueEvents]
  exact or_iff_right fun k => by simp [(scheduledRows_unheard c (scheduled_of_mem k)).1] at h

/-- What the receiver hands over at a bit time is queued (R71, R74). -/
theorem received_due {c : Instr} {s : State} (h : isReceived c = true) : c ∈ dueEvents s ↔
    ∃ b, s.line.heard.head? = some b ∧ (s.line.receive b).2 = some c := by
  rw [heard_due (isHeard_of_received h).1, mem_heardEvents]
  refine or_iff_left ?_
  rintro (⟨n, -, rfl⟩ | ⟨-, rfl⟩) <;> cases h

/-- Contention and the return to mark, behind what the receiver hands over (R83, R90). -/
def unreceivedEvents (l : Line) : List Instr :=
  (l.contended.map Instr.contention).toList ++ if l.markDue then [.lineReturnsToMark] else []

theorem unreceivedEvents_spec (l : Line) :
    (unreceivedEvents l).Nodup ∧ ∀ c ∈ unreceivedEvents l, isReceived c = false := by
  unfold unreceivedEvents
  cases l.contended <;> cases l.markDue <;> simp [isReceived]

theorem heardEvents_nodup (l : Line) : l.heardEvents.Nodup := by
  obtain ⟨nodup, unreceived⟩ := unreceivedEvents_spec l
  unfold Line.heardEvents
  rw [List.append_assoc]
  refine List.Nodup.append ?_ nodup fun c h k => ?_
  · split
    · cases (l.receive _).2 <;> simp
    · exact List.nodup_nil
  · have apart := unreceived c k
    split at h
    · rw [receive_received (Option.mem_toList.mp h)] at apart
      cases apart
    · cases h

/-- Nothing falls due twice. -/
theorem dueEvents_nodup (s : State) : (dueEvents s).Nodup := by
  refine (scheduledRows_nodup.sublist (scheduled_sublist _ _ _)).append (heardEvents_nodup _) fun c h k => ?_
  have unheard := (scheduledRows_unheard c ((scheduled_sublist _ _ _).subset h)).1
  simp [(heardEvents_heard k).1] at unheard

theorem dueEvents_no_command {c : Instr} {s : State} (h : c ∈ dueEvents s) : commandCode c = none := by
  obtain h | h := mem_dueEvents.mp h
  · exact (scheduledRows_unheard c (scheduled_of_mem h)).2
  · exact (heardEvents_heard h).2

/-! ### The timers (00, Time) -/

theorem silence_runs_out (k : SilenceTimer) : k.tick = .running 0 ↔ k = .running 0 ∨ k = .running 1 := by
  cases k <;> simp [SilenceTimer.tick]
  omega

theorem timer_runs_out (t : Option Nat) : t.map (fun left => left - 1) = some 0 ↔ t = some 0 ∨ t = some 1 := by
  cases t <;> simp
  omega

/-- A debounce timer's expiry falls due where the timer runs out (R24). -/
theorem debounce_due (s : State) (i : Fin 4) : Instr.debounceExpiry i ∈ dueEvents s ↔
    s.ports[i].timer = some 0 ∨ s.ports[i].timer = some 1 := by
  rw [scheduled_due rfl, ← timer_runs_out]
  fin_cases i <;> simp [timerEvents, lineEvents, advance]

/-- Settles O2: the frame of the bit time, and each expiry where its timer runs out. -/
theorem emptyQueueLetsOneBitTimePass : Obligations.EmptyQueueLetsOneBitTimePass := by
  intro s hq
  refine ⟨step_starts hq, fun h => ⟨bitTimeOn s, step_passes hq h, rfl, rfl, ?_, bitTimeOn_ports s, ?_, ?_, ?_, ?_, ?_,
    fun i => mem_bitTimeOn_pending.trans (debounce_due s i), nodup_freeOrder.mpr (dueEvents_nodup _),
    fun c hc => dueEvents_no_command (mem_bitTimeOn_pending.mp hc)⟩⟩
  · show s.link.silence.tick = _
    cases s.link.silence <;> rfl
  all_goals
    rw [mem_bitTimeOn_pending, scheduled_due rfl]
  · simp [timerEvents, lineEvents, advance, Timers.tick, Nat.sub_eq_zero_iff_le]
  · simp [timerEvents, lineEvents, advance, Timers.tick, Nat.sub_eq_zero_iff_le]
  · simp [timerEvents, lineEvents, advance, Timers.tick, Nat.sub_eq_zero_iff_le]
  · simp [timerEvents, lineEvents, advance, Timers.tick, Nat.sub_eq_zero_iff_le]
  · simp [timerEvents, lineEvents, advance, silence_runs_out]

end Sys2Proof.HallLine

/-! ## What a bit time does to the line (R69 to R71, R74, R79, R82 to R84, R88, R90; log 6) -/

namespace Sys2Proof.HallLine

open Sys2Proof Sys2Proof.Machine Sys2Proof.Laws Sys2Proof.Safety Sys2Proof.Claims Sys2Proof.Postures

/-! ### The line one bit time on -/

/-- What a bit time changes on the line, all of it. -/
theorem tick_eq (l : Line) : l.tick = { l with
    tx := l.tick.tx, wait := l.wait - 1, idleCount := l.tick.idleCount, spaceCount := l.tick.spaceCount
    space := l.tick.space, carrier := l.tick.carrier, noise := l.tick.noise, taking := l.tick.taking
    heard := l.heard.tail, tapped := !l.heard.isEmpty } := by
  cases h : l.heard with
  | nil => simp [Line.tick, hear_nothing h, h]
  | cons b rest => simp [Line.tick, hear_bit h]

theorem tick_heard (l : Line) : l.tick.space = l.hear.space ∧ l.tick.carrier = l.hear.carrier ∧
    l.tick.noise = l.hear.noise ∧ l.tick.taking = l.hear.taking := by simp [Line.tick]

/-- With no input the other drivers do what they did (log 6). -/
theorem tick_unheard {l : Line} (h : l.heard = []) : l.tick.space = l.space ∧ l.tick.carrier = l.carrier ∧
    l.tick.noise = l.noise ∧ l.tick.taking = l.taking := by
  simp [Line.tick, hear_nothing h]

/-- An input gives carrier, level, noise and the receiver's work (R69, R71). -/
theorem tick_bit {l : Line} {b : LineBit} (h : l.heard.head? = some b) : l.tick.space = b.space ∧
    l.tick.carrier = b.carrier ∧ l.tick.noise = (l.noise || (b.noisy && !l.driving)) ∧
    l.tick.taking = (l.receive b).1 := by
  obtain ⟨rest, hr⟩ := List.head?_eq_some_iff.mp h
  simp [Line.tick, hear_bit hr]

/-! ### The line's own events -/

theorem contention_due {s : State} {n : Nat} :
    Instr.contention n ∈ dueEvents s ↔ s.line.contended = some n := by
  rw [heard_due rfl, mem_heardEvents]
  constructor
  · rintro (⟨b, -, h⟩ | ⟨m, hm, h⟩ | ⟨-, h⟩)
    · exact absurd (receive_received h) (by simp [isReceived])
    · cases h; exact hm
    · cases h
  · exact fun h => .inr (.inl ⟨n, h, rfl⟩)

theorem lineReturnsToMark_due {s : State} : Instr.lineReturnsToMark ∈ dueEvents s ↔ s.line.markDue = true := by
  rw [heard_due rfl, mem_heardEvents]
  constructor
  · rintro (⟨b, -, h⟩ | ⟨m, -, h⟩ | ⟨h, -⟩)
    · exact absurd (receive_received h) (by simp [isReceived])
    · cases h
    · exact h
  · exact fun h => .inr (.inr ⟨h, rfl⟩)

theorem markDue_iff (l : Line) : l.markDue = true ↔
    l.driving = false ∧ l.framingPending = true ∧ l.heard ≠ [] ∧ l.tick.space = false := by
  cases h : l.heard with
  | nil => simp [Line.markDue, h]
  | cons b rest =>
    obtain ⟨space, -⟩ := tick_bit (l := l) (b := b) (by rw [h]; rfl)
    simp [Line.markDue, h, space, and_assoc]

section
variable (s : State)

theorem frameSent_due : Instr.frameSent ∈ dueEvents s ↔ s.line.tick.sentDue = true ∧ s.line.contended = none := by
  rw [scheduled_due rfl]
  simp [timerEvents, lineEvents]

theorem breakEnd_due : Instr.breakEnd ∈ dueEvents s ↔ s.line.tick.breakDone = true := by
  rw [scheduled_due rfl]
  simp [timerEvents, lineEvents]

theorem backoffEnd_due : Instr.backoffEnd ∈ dueEvents s ↔ s.line.tick.backoffDue = true := by
  rw [scheduled_due rfl]
  simp [timerEvents, lineEvents]

theorem huntResume_due : Instr.receiverHuntResume ∈ dueEvents s ↔ s.line.tick.huntDue = true := by
  rw [scheduled_due rfl]
  simp [timerEvents, lineEvents]

theorem breakRecognised_due : Instr.breakRecognised ∈ dueEvents s ↔ s.line.tick.breakHeardDue = true := by
  rw [scheduled_due rfl]
  simp [timerEvents, lineEvents]

end

theorem huntDue_tick (l : Line) : l.tick.huntDue = true ↔
    l.rx = .waiting ∧ l.driving = false ∧ 10 ≤ l.tick.idleCount := by
  simp only [Line.huntDue, tick_rx, tick_driving, Bool.and_eq_true, Bool.not_eq_true', decide_eq_true_iff, and_assoc]
  rfl

theorem breakHeardDue_tick (l : Line) : l.tick.breakHeardDue = true ↔
    l.driving = false ∧ l.tick.space = true ∧ l.tick.spaceCount = 30 := by
  simp only [Line.breakHeardDue, tick_driving, Bool.and_eq_true, Bool.not_eq_true', decide_eq_true_iff, and_assoc]
  rfl

/-- Contention of an attempt is the carrier of another driver (R69, R83). -/
theorem contended_of_sending {l : Line} {f : Flight} (hf : l.tx = .sending f) :
    l.contended = if (l.heard.head?.map (fun b => b.carrier)).getD false then some f.bit else none := by
  unfold Line.contended
  rw [hf]
  cases l.heard <;> rfl

theorem sentDue_tick {l : Line} {f : Flight} (hf : l.tx = .sending f) :
    l.tick.sentDue = true ↔ 10 * (f.bytes.length + 1) ≤ f.bit + 1 := by
  simp only [Line.sentDue, tick_tx, hf, Tx.tick, decide_eq_true_iff]
  rfl

theorem breakDone_tick {l : Line} {n : Nat} (h : l.tx = .breaking n) : l.tick.breakDone = true ↔ 40 ≤ n + 1 := by
  simp [Line.breakDone, tick_tx, h, Tx.tick, Config.breakBits]

theorem backoffDue_tick {l : Line} (h : l.tx = .backoff) : l.tick.backoffDue = true ↔ l.wait ≤ 1 := by
  simp [Line.backoffDue, tick_tx, tick_wait, h, Tx.tick, Nat.sub_eq_zero_iff_le]

/-! ### The receiver's bit (R71, R74) -/

theorem receive_not_listening {s : State} (h : ¬Listens s) (b : LineBit) : s.line.receive b = (none, none) := by
  cases hd : s.line.driving with
  | true => exact receive_driving hd b
  | false =>
    cases hr : s.line.rx with
    | waiting => exact receive_waiting hr b
    | hunting => exact absurd ⟨hd, hr⟩ h

theorem space_eq (b : LineBit) : b.space = decide (majoritySpace b) := by
  rw [Bool.eq_iff_iff, bit_space_iff, decide_eq_true_iff]

theorem noisy_eq (b : LineBit) : b.noisy = decide ¬(b.first = b.second ∧ b.second = b.third) := by
  rw [Bool.eq_iff_iff, bit_noisy_iff, decide_eq_true_iff]

/-- A majority at space is a bit that falls to space. -/
theorem touchesSpace_of_majority {b : LineBit} (h : majoritySpace b) : b.touchesSpace = true := by
  obtain ⟨h, -⟩ | ⟨h, -⟩ | ⟨h, -⟩ := h <;> simp [LineBit.touchesSpace, h]

section
variable {was : Bool} {b : LineBit}

theorem seekStart_idle (h : was = true ∨ b.touchesSpace = false) : seekStart was b = (none, none) :=
  if_pos (by obtain h | h := h <;> simp [h])

theorem seekStart_opens (hw : was = false) (h : majoritySpace b) : seekStart was b = (some ⟨[], [true]⟩, none) := by
  rw [seekStart, if_neg (by simp [hw, touchesSpace_of_majority h]), if_pos (by simpa [space_eq] using h)]

theorem seekStart_false (hw : was = false) (ht : b.touchesSpace = true) (h : ¬majoritySpace b) :
    seekStart was b = (none, some (.falseStart b.noisy)) := by
  rw [seekStart, if_neg (by simp [hw, ht]), if_neg (by simpa [space_eq] using h)]

end

section
variable {r : Reception} {space : Bool}

theorem takeBit_starts (h : r.bits = []) : takeBit r true = (some { r with bits := [true] }, none) := by
  simp [takeBit, h]

theorem takeBit_ends (h : r.bits = []) : takeBit r false = (none, some (.frameReceived r.chars .mark false)) := by
  simp [takeBit, h]

theorem takeBit_within (h : r.bits ≠ []) (hl : r.bits.length < 9) :
    takeBit r space = (some { r with bits := r.bits ++ [space] }, none) := by
  unfold takeBit
  split
  next e => exact absurd e h
  · exact if_pos (by simp; omega)

/-- The tenth bit is the stop bit of the character the first nine spell (R70, R74). -/
theorem takeBit_tenth {c : Byte} (h : r.bits = (List.range 9).map (characterLevel c)) : takeBit r space =
    if space then (none, some (.frameReceived (r.chars ++ [c]) .space false))
    else if frameOpen (r.chars ++ [c]) then (some ⟨r.chars ++ [c], []⟩, none)
    else (none, some (.frameReceived (r.chars ++ [c]) .mark false)) := by
  have taken : takenByte (r.bits ++ [space]) = c := takenByte_of_data (by rw [h]; rfl)
  unfold takeBit
  split
  next e => rw [h] at e; cases e
  · simp only [taken]
    exact if_neg (by simp [h])

end

/-- A frame goes on by its sync byte and its length (R74). -/
theorem frameOpen_iff (chars : List Byte) : frameOpen chars = true ↔
    chars.head? = some syncByte ∧ (frameLength chars).all (fun n => decide (chars.length < n)) = true := by
  unfold frameOpen
  rw [Bool.and_eq_true, decide_eq_true_iff]
  cases frameLength chars <;> rfl

theorem not_frameOpen_iff (chars : List Byte) : ¬frameOpen chars = true ↔
    chars.head? ≠ some syncByte ∨ (frameLength chars).any (fun n => decide (n ≤ chars.length)) = true := by
  rw [frameOpen_iff, not_and_or]
  cases frameLength chars <;> simp

/-! ### The bit time read -/

section
variable {s : State} {b : LineBit} (hb : s.line.heard.head? = some b)
include hb

/-- What the receiver hands over is queued, and what it keeps stands on the line. -/
theorem received_event {r : Option Reception} {c : Instr} (h : s.line.receive b = (r, some c)) :
    s.line.tick.taking = r ∧ c ∈ dueEvents s := by
  have event : (s.line.receive b).2 = some c := by rw [h]
  exact ⟨by rw [(tick_bit hb).2.2.2, h], (received_due (receive_received event)).mpr ⟨b, hb, event⟩⟩

theorem received_kept {r : Option Reception} {e : Option Instr} (h : s.line.receive b = (r, e)) :
    s.line.tick.taking = r := by rw [(tick_bit hb).2.2.2, h]

/-- Where the receiver hands over nothing, neither characters nor a false start are queued. -/
theorem received_nothing {r : Option Reception} (h : s.line.receive b = (r, none)) {c : Instr} (hc : c ∈ dueEvents s) :
    isReceived c = false := by
  by_contra hr
  obtain ⟨x, hx, event⟩ := (received_due (by simpa using hr)).mp hc
  rw [Option.some.inj (hx.symm.trans hb), h] at event
  cases event

end

/-- No characters and no false start are queued without an input, or by a receiver that does not listen (R74, R76). -/
theorem received_silent {s : State} (h : s.line.heard = [] ∨ ¬Listens s) {c : Instr} (hc : c ∈ dueEvents s) :
    isReceived c = false := by
  by_contra hr
  obtain ⟨b, hb, event⟩ := (received_due (by simpa using hr)).mp hc
  obtain h | h := h
  · rw [h] at hb
    cases hb
  · rw [receive_not_listening h] at event
    cases event

theorem not_received {c : Instr} (h : isReceived c = false) (chars : List Byte) (stop : StopBit) (noisy : Bool) :
    c ≠ .frameReceived chars stop noisy ∧ c ≠ .falseStart noisy := by
  constructor <;> (rintro rfl; cases h)

/-- Settles O3: the line by its tick, the events by what falls due, and the receiver's bit by its state. -/
theorem everyBitTimeOfTheLineIsRead : Obligations.EveryBitTimeOfTheLineIsRead := by
  refine ⟨fun s hq h => ⟨bitTimeOn s, step_passes hq h, ?_⟩, fun s b hq h hb hl => ⟨bitTimeOn s, step_passes hq h, ?_⟩⟩
    <;> simp only [mem_bitTimeOn_pending, bitTimeOn_line]
  · refine ⟨tick_eq _, ?_, ?_, ?_, tick_unheard, fun hh hn => ?_, fun hs c hc => not_received (received_silent hs hc),
      fun b hb => ?_, fun f hf => ⟨fun b hb hc => ?_, fun hc => ?_⟩,
      fun n hn => (breakEnd_due s).trans (breakDone_tick hn), fun hb => (backoffEnd_due s).trans (backoffDue_tick hb),
      (huntResume_due s).trans (huntDue_tick _), (breakRecognised_due s).trans (breakHeardDue_tick _),
      lineReturnsToMark_due.trans (markDue_iff _)⟩
    · rw [tick_tx]
      cases s.line.tx <;> rfl
    · rw [tick_idleCount, (tick_heard _).2.1]
      simp [saturate]
    · rw [tick_spaceCount, (tick_heard _).1]
    · obtain ⟨b, rest, hb⟩ := List.exists_cons_of_ne_nil hh
      exact received_kept (by rw [hb]; rfl) (receive_not_listening hn b)
    · obtain ⟨space, carrier, noise, -⟩ := tick_bit hb
      rw [space, carrier, noise]
      refine ⟨rfl, bit_space_iff b, ?_⟩
      simp [bit_noisy_iff, and_comm]
    · have meets : s.line.contended = some f.bit := by rw [contended_of_sending hf, hb]; simp [hc]
      exact ⟨contention_due.mpr meets, fun k => by simp [((frameSent_due s).mp k).2] at meets⟩
    · have clear : s.line.contended = none := by rw [contended_of_sending hf, hc]; rfl
      rw [frameSent_due, sentDue_tick hf, and_iff_left clear]
  · refine ⟨fun ht => ?_, fun r ht => ?_⟩
    · have seeks := receive_seeking hl.1 hl.2 ht b
      refine ⟨fun hi => ?_, fun hw hm => ?_, fun hw hf hm => ?_⟩
      · rw [seekStart_idle hi] at seeks
        exact ⟨received_kept hb seeks, fun c hc => not_received (received_nothing hb seeks hc)⟩
      · rw [seekStart_opens hw hm] at seeks
        exact received_kept hb seeks
      · rw [seekStart_false hw hf hm, noisy_eq] at seeks
        exact received_event hb seeks
    · have takes := receive_taking hl.1 hl.2 ht b
      refine ⟨fun h0 hm => ?_, fun h0 hm => ?_, fun h0 hlen => ?_, fun c chars h9 hchars => ?_⟩
      · rw [space_eq, decide_eq_true hm, takeBit_starts h0] at takes
        exact received_kept hb takes
      · rw [space_eq, decide_eq_false hm, takeBit_ends h0] at takes
        exact received_event hb takes
      · rw [takeBit_within h0 hlen, space_eq] at takes
        exact received_kept hb takes
      · rw [takeBit_tenth h9, ← hchars, space_eq] at takes
        refine ⟨fun hm => ?_, fun hm => ⟨fun hn => ?_, fun hh hn => ?_⟩⟩
        · rw [if_pos (decide_eq_true hm)] at takes
          exact received_event hb takes
        · rw [if_neg (by simpa using hm), if_neg ((not_frameOpen_iff chars).mpr hn)] at takes
          exact received_event hb takes
        · rw [if_neg (by simpa using hm), if_pos ((frameOpen_iff chars).mpr ⟨hh, hn⟩)] at takes
          exact received_kept hb takes

end Sys2Proof.HallLine

/-! ## SET of the station id and of the group (R85, R87, R107, R108) -/

namespace Sys2Proof.HallLine

open Sys2Proof Sys2Proof.Machine Sys2Proof.Laws Sys2Proof.Safety Sys2Proof.Claims Sys2Proof.Postures
open Sys2Proof.LoadProgram

/-! ### The peer conditions evaluated in IDLE (R108) -/

/-- The three entries of the peer table's conditions (R108). -/
def isPeerCause (c : Cause) : Prop := c = .peerHold ∨ c = .peerUnload ∨ c = .peerLost

/-- Nothing but the peer conditions' entries and the notices has changed. -/
structure PeersReported (s t : State) : Prop where
  confined : Confined s t
  posture : t.posture = s.posture
  program : t.program = s.program
  crack : t.crack = s.crack
  line : t.line = s.line
  others : ∀ d, ¬isPeerCause d → t.entry d = s.entry d

theorem PeersReported.trans {a b c : State} (h : PeersReported a b) (k : PeersReported b c) : PeersReported a c :=
  ⟨h.confined.trans k.confined, k.posture.trans h.posture, k.program.trans h.program, k.crack.trans h.crack,
    k.line.trans h.line, fun d hd => (k.others d hd).trans (h.others d hd)⟩

/-- Notices handed over change nothing but the notice queue (R190). -/
theorem pushNotices_peersReported (ns : List Notice) (s : State) : PeersReported s (pushNotices ns s) := by
  induction ns generalizing s with
  | nil => exact ⟨.refl s, rfl, rfl, rfl, rfl, fun _ _ => rfl⟩
  | cons n ns ih =>
    have first : PeersReported s (pushNotice n s) :=
      ⟨⟨rfl, rfl, rfl, rfl, rfl, rfl, rfl, rfl, rfl, rfl, rfl, pushNotice_sameHost n (sameHost_refl _)⟩, rfl, rfl, rfl,
        rfl, fun _ _ => rfl⟩
    exact first.trans (ih _)

/-- In IDLE with no hold demand, a peer condition's report moves neither posture nor line (R13, R121). -/
theorem report_peersReported {c : Cause} (hc : isPeerCause c) (v : Bool) {s : State} (hp : s.posture = .idle)
    (h0 : s.line.holdTime = 0) : PeersReported s (report c v s) := by
  have reported := report_reported true c v hp
  have noBreak : hallStopOf s.settings c = false := by obtain rfl | rfl | rfl := hc <;> rfl
  exact ⟨reported.confined, reported.posture, reported.program, reported.crack,
    report_line true v hp noBreak (.inr h0), fun d hd => reported.others d fun e => hd (e ▸ hc)⟩

theorem evalPeers_peersReported {s : State} (hp : s.posture = .idle) (h0 : s.line.holdTime = 0) :
    PeersReported s (evalPeers s) := by
  have first := report_peersReported (c := .peerHold) (.inl rfl)
    (peerHoldCondition s.settings.group s.peers.entries) hp h0
  have second := first.trans (report_peersReported (c := .peerUnload) (.inr (.inl rfl))
    (peerUnloadCondition s.settings.group s.peers.entries) (first.posture.trans hp) (by rw [first.line, h0]))
  exact second.trans (report_peersReported (.inr (.inr rfl)) _ (second.posture.trans hp) (by rw [second.line, h0]))

/-- Entries replaced in IDLE with no hold demand, with their notices and the conditions behind them. -/
theorem noticed_peersReported (ns : List Notice) (es : List Peer) {s : State} (hp : s.posture = .idle)
    (h0 : s.line.holdTime = 0) : PeersReported (setPeers es s) (noticed ns es s) := by
  have pushed := pushNotices_peersReported ns (setPeers es s)
  exact pushed.trans (evalPeers_peersReported (pushed.posture.trans hp) (by rw [pushed.line]; exact h0))

/-! ### The two settings (R188, R201) -/

/-- A value of a byte's range, read signed or not. -/
theorem toInt_eq_toNat {v : BitVec 32} (h : 0 ≤ v.toInt) : v.toInt = v.toNat := by
  have read := v.toInt_eq_toNat_cond
  split at read <;> omega

theorem settingAllowed_byte {number : Nat} (hn : number = 1 ∨ number = 2) {v : BitVec 32} (h0 : 0 ≤ v.toInt)
    (h255 : v.toInt ≤ 255) (st : Settings) : settingAllowed number 0 v.toInt st = true := by
  obtain rfl | rfl := hn <;> simp [settingAllowed, settingRange, within, agrees, h0, h255]

/-- An accepted SET with its setting written and the evaluation behind it (R188). -/
theorem exec_set {n : Byte} {v : BitVec 32} {s : State} (hr : Ready s) (hp : s.posture = .idle)
    (ha : settingAllowed n.toNat 0 v.toInt s.settings = true) (hne : readSetting n.toNat 0 s.settings ≠ v.toInt) :
    ∃ r, exec (.set n 0#8 v) s = .next (afterReply (.set n 0#8 v) 0x01#8 r
      (settingChanged n.toNat 0 { s with settings := writeSetting n.toNat 0 v.toInt s.settings })) := by
  obtain ⟨data, body⟩ := cmdSet_accepts hp ha hne
  have taken : exec (.set n 0#8 v) s = .next (sendCommand (.set n 0#8 v) (cmdSet n.toNat 0 v.toInt) s) := rfl
  exact ⟨_, exec_of_body taken rfl hr body⟩

/-! ### The station id (R85, R87, R107) -/

/-- The line at a change of the station id (R85, R87). -/
def lineWithId (id : Nat) (l : Line) : Line :=
  if id = 0 then silenceLine { l with generator := BitVec.ofNat 16 id }
  else settleTx id { l with generator := BitVec.ofNat 16 id }

theorem lineWithId_generator {id : Nat} (h : id ≠ 0) (l : Line) :
    (lineWithId id l).generator = BitVec.ofNat 16 id := by
  rw [lineWithId, if_neg h, settleTx_eq]

theorem lineWithId_holdTime (id : Nat) (l : Line) : (lineWithId id l).holdTime = l.holdTime := by
  unfold lineWithId
  split
  · rfl
  · exact settleTx_holdTime _ _

/-- Id 0 silences the line: an attempt or break being driven runs on, and otherwise QUIET (R87). -/
theorem silenceLine_tx (l : Line) : (l.driving = false → (silenceLine l).tx = .quiet) ∧
    (l.driving = true → (silenceLine l).tx = l.tx) := by
  unfold Line.driving silenceLine
  cases l.tx <;> simp

/-- The work of a change of the station id: the line, and the entry of the new id removed with its notice (R85, R87,
R107). -/
theorem idChanged_eq (s : State) : idChanged s =
    noticed ((s.peers.entries.filter fun e => decide (e.id = s.settings.stationId)).map
        fun e => .peerForgotten e.id .ownId)
      (s.peers.entries.filter fun e => e.id ≠ s.settings.stationId)
      (setLine (lineWithId s.settings.stationId s.line) s) := by
  simp only [ne_eq, decide_not]
  rfl

theorem set_stationId {v : BitVec 32} {s : State} (hr : Ready s) (hp : s.posture = .idle) (h0 : s.line.holdTime = 0)
    (hv : 0 ≤ v.toInt) (h255 : v.toInt ≤ 255) (hne : v.toInt ≠ s.settings.stationId) :
    ∃ t, exec (.set 1#8 0#8 v) s = .next t ∧ t.settings = { s.settings with stationId := v.toNat } ∧
      t.peers.entries = s.peers.entries.filter (fun e => e.id ≠ v.toNat) ∧ t.line = lineWithId v.toNat s.line := by
  have written : writeSetting 1 0 v.toInt s.settings = { s.settings with stationId := v.toNat } := by
    rw [toInt_eq_toNat hv]
    rfl
  obtain ⟨r, run⟩ := exec_set (n := 1#8) hr hp (settingAllowed_byte (.inl rfl) hv h255 _) (fun h => hne h.symm)
  have changed : settingChanged 1 0 { s with settings := writeSetting 1 0 v.toInt s.settings } = _ :=
    idChanged_eq { s with settings := writeSetting 1 0 v.toInt s.settings }
  rw [show (1#8).toNat = 1 from rfl, changed, written] at run
  refine ⟨_, run, ?_, ?_, ?_⟩
  · rw [afterReply_settings, (noticed_keeps _ _ _).settings]
    rfl
  · rw [afterReply_peers, (noticed_keeps _ _ _).entries]
    rfl
  · rw [afterReply_line, (noticed_peersReported _ _ (by exact hp) (by
      rw [setLine_line, lineWithId_holdTime]; exact h0)).line]
    rfl

/-! ### The group (R107, R108) -/

/-- The work of a change of the group: every entry of another group removed, with a notice for each (R107). -/
theorem groupChanged_eq (s : State) : groupChanged s =
    noticed ((s.peers.entries.filter fun e => e.group ≠ s.settings.group).map fun e => .peerForgotten e.id .ownGroup)
      (s.peers.entries.filter fun e => e.group = s.settings.group) s := by
  unfold groupChanged removePeers
  simp only [ne_eq, decide_not, Bool.not_not]
  rfl

/-- The frame of entries replaced in IDLE by a command, with their notices and conditions behind them. -/
theorem Answered.of_noticed {s t : State} {st : Settings} {ns : List Notice} {es : List Peer} (hp : s.posture = .idle)
    (h0 : s.line.holdTime = 0) (h : Answered s (noticed ns es { s with settings := st }) t) : t = { s with
      settings := st, peers := { s.peers with entries := es }, causes := t.causes, link := exchanged s t } := by
  obtain ⟨c, posture, program, crack, line, -⟩ :=
    noticed_peersReported ns es (s := { s with settings := st }) hp h0
  refine h.frame.trans ?_
  rw [h.causes]
  refine state_ext ?_ ?_ ?_ rfl ?_ ?_ ?_ ?_ ?_ ?_ ?_ ?_ ?_ rfl ?_ ?_ ?_
  · exact c.time
  · exact c.settings
  · exact posture
  · exact c.holdRecord
  · exact c.unloadRecord
  · exact program
  · exact c.servo
  · exact line
  · exact c.peers
  · exact c.strain
  · exact crack
  · exact c.ports
  · exact c.timers
  · exact c.draws
  · exact c.pending

theorem Answered.peerConditionLaw {s u t : State} (h : Answered s u t) (k : Safety.peerConditionLaw u) :
    Safety.peerConditionLaw t := by
  have peers : t.peers = u.peers := (congrArg State.peers h.frame).trans rfl
  rw [Safety.peerConditionLaw, h.entry, h.entry, h.entry, h.settings, peers]
  exact k

/-- Settles O11: both SETs replace the peer table's entries in IDLE, where the conditions behind them move nothing
else. -/
theorem setOfStationIdOrGroupActsAtOnce : Obligations.SetOfStationIdOrGroupActsAtOnce := by
  intro v s hr hp _ hd hv h255
  have h0 : s.line.holdTime = 0 := by rw [hd, if_neg (by simp [hp])]
  refine ⟨fun hne => ?_, fun hne => ?_⟩
  · obtain ⟨t, run, settings, entries, line⟩ := set_stationId hr hp h0 hv h255 hne
    refine ⟨t, run, settings, entries, fun hid => by rw [line, lineWithId_generator hid], fun hid => ?_⟩
    rw [line, hid]
    exact ⟨rfl, silenceLine_tx { s.line with generator := 0 }⟩
  · have written : writeSetting 2 0 v.toInt s.settings = { s.settings with group := v.toNat } := by
      rw [toInt_eq_toNat hv]
      rfl
    obtain ⟨r, run⟩ := exec_set (n := 2#8) hr hp (settingAllowed_byte (.inr rfl) hv h255 _) (fun h => hne h.symm)
    have changed : settingChanged 2 0 { s with settings := writeSetting 2 0 v.toInt s.settings } = _ :=
      groupChanged_eq { s with settings := writeSetting 2 0 v.toInt s.settings }
    rw [show (2#8).toNat = 2 from rfl, changed, written] at run
    have work := noticed_peersReported
      ((s.peers.entries.filter fun e => e.group ≠ v.toNat).map fun e => .peerForgotten e.id .ownGroup)
      (s.peers.entries.filter fun e => e.group = v.toNat)
      (s := { s with settings := { s.settings with group := v.toNat } }) hp h0
    have answered := answered_afterReply (c := .set 2#8 0#8 v) (code := 0x01#8) (r := r) (s := s) work.confined.host
    refine ⟨_, _, run, rfl, Answered.of_noticed hp h0 answered,
      Answered.peerConditionLaw answered (evalPeers_peerConditionLaw _),
      fun d hh hu hl => (answered.entry d).trans (work.others d ?_), fun few => ?_⟩
    · rintro (rfl | rfl | rfl) <;> contradiction
    · rw [List.isPrefixOf_iff_prefix, answered.notices]
      have stands := noticed_prefix
        (ns := (s.peers.entries.filter fun e => e.group ≠ v.toNat).map fun e => .peerForgotten e.id .ownGroup)
        (es := s.peers.entries.filter fun e => e.group = v.toNat)
        (s := { s with settings := { s.settings with group := v.toNat } }) (by simpa using few)
      rw [List.map_map] at stands
      exact stands

end Sys2Proof.HallLine

/-! ## The peer table's two laws along a step (R94, R99, R108)

The law of the peer conditions is no invariant by itself. A REPORT discarded for chatter writes its entry back without
an evaluation of the conditions (R99), and an entry is written in the place of every entry with its id: in a table that
holds an id twice, the other entry is lost with the demand it stood for. -/

namespace Sys2Proof.PeerTable

open Sys2Proof Sys2Proof.Machine Sys2Proof.Laws Sys2Proof.Safety Sys2Proof.Claims Sys2Proof.Postures
open Sys2Proof.LoadProgram

/-- An entry of id 9 in the group of the station after reset. -/
def twinPeer (holdCount chatterCount : Nat) : Peer :=
  { id := 9, group := 0, weight := 1, posture := .idle, paced := false, starved := false, derated := false,
    firstCause := 0, holdCount := holdCount, progress := 0, load := 0, age := 0, lost := false,
    chatterCount := chatterCount, chattering := false }

/-- A table that holds id 9 twice: the first entry has reached the chatter limit, the second demands the hold that
PEER_HOLD's condition tells of. -/
def twinTable : State :=
  setEntry .peerHold { condition := true } (setPeers [twinPeer 0 12, twinPeer 1 0] State.reset)

/-- A REPORT of id 9. -/
def twinFrame : Frame := ⟨9#8, .report ⟨0, 1, 0, 0, 0, 0, 0, 0⟩⟩

/-- The REPORT is discarded for chatter, and the first entry takes the place of both (R99). -/
theorem twinTable_discards : ∃ t, exec (.frameReceived (encodeFrame twinFrame) .mark false) twinTable = .next t ∧
    t.peers.entries = [{ twinPeer 0 12 with chattering := true }, { twinPeer 0 12 with chattering := true }] ∧
    t = { twinTable with peers := t.peers, line := t.line } := by
  obtain ⟨-, -, -, -, discarded⟩ :=
    reportUpdatesThePeerTable twinFrame ⟨0, 1, 0, 0, 0, 0, 0, 0⟩ twinTable (by decide) rfl (by decide) (by decide)
  exact discarded (twinPeer 0 12) (by decide) (by decide) (by decide)

/-- Refutes O58 by its second law, which does not ask for the first: from a table that holds an id twice, a REPORT
discarded for chatter leaves PEER_HOLD's condition true with no hold demanded. -/
theorem not_everyStepKeepsThePeerTable : ¬ Obligations.EveryStepKeepsThePeerTable := by
  intro h
  obtain ⟨t, run, entries, frame⟩ := twinTable_discards
  have law : peerConditionLaw t := h.2
    { twinTable with pending := [.frameReceived (encodeFrame twinFrame) .mark false] } t (by decide) run
  have condition : (t.entry .peerHold).condition = true := by
    rw [frame]
    exact (by decide : (twinTable.entry .peerHold).condition = true)
  have group : t.settings.group = 0 := by rw [frame]; rfl
  rw [law.1, group, entries] at condition
  revert condition
  decide

end Sys2Proof.PeerTable

/-! ## FORGET (R106) -/

namespace Sys2Proof.PeerTable

open Sys2Proof Sys2Proof.Machine Sys2Proof.Laws Sys2Proof.Safety Sys2Proof.Claims Sys2Proof.Postures
open Sys2Proof.LoadProgram

/-! ### A table with fewer entries demands no more -/

/-- What some entry left demands, some entry of the whole table demands (R108). -/
theorem any_of_any_filter {p q : Peer → Bool} {es : List Peer} (h : (es.filter p).any q = true) :
    es.any q = true := by
  rw [List.any_filter, List.any_eq_true] at h
  obtain ⟨e, he, k⟩ := h
  exact List.any_eq_true.mpr ⟨e, he, (Bool.and_eq_true _ _ ▸ k).2⟩

/-! ### A condition that falls or stands moves neither the trim nor the pacing -/

/-- The peer table, the trim in it, and the paced flag are as they were; so is the host's side of the link. -/
structure Unpaced (s t : State) : Prop where
  confined : Confined s t
  paced : t.program.paced = s.program.paced

theorem Unpaced.trans {a b c : State} (h : Unpaced a b) (k : Unpaced b c) : Unpaced a c :=
  ⟨h.confined.trans k.confined, k.paced.trans h.paced⟩

theorem takeIntoFlight_paced (s : State) : (takeIntoFlight s).program.paced = s.program.paced := by
  unfold takeIntoFlight
  split
  · split <;> rfl
  · rfl

theorem starvedTest_paced (s : State) : (starvedTest s).program.paced = s.program.paced := by
  unfold starvedTest
  split <;> rfl

/-- HOLD exit leaves the paced flag to the pacing evaluation (R15, R118). -/
theorem holdExit_paced (k : Option Cause) (s : State) : (holdExit k s).program.paced = s.program.paced := by
  unfold holdExit
  split
  · rw [enterRun, starvedTest_paced, takeIntoFlight_paced, dropDemand_program, changePosture_program,
      if_neg fun leaves => leaves.2 rfl]
  · rfl

theorem clearEntry_unpaced (exit : Bool) (k : Option Cause) (c : Cause) (s : State) :
    Unpaced s (clearEntry exit k c s) := by
  refine ⟨clearEntry_confined exit k c s, ?_⟩
  unfold clearEntry
  split
  · rw [holdExit_paced, clearLatch_program]
  · rw [clearLatch_program]

/-- A report that raises nothing (R5). -/
theorem report_unpaced {c : Cause} {v : Bool} {s : State} (h : v = true → (s.entry c).condition = true) :
    Unpaced s (report c v s) := by
  cases v with
  | true => rw [report_of_held (h rfl)]; exact ⟨.refl s, rfl⟩
  | false =>
    have stored : Unpaced s (withCondition c false s) := ⟨withCondition_confined c false s, rfl⟩
    obtain e | e := reportWith_fall_cases true c s <;> rw [report, e]
    · exact stored
    · exact stored.trans (clearEntry_unpaced _ _ _ _)

/-- The conditions evaluated on a table that demands no more than they tell of (R108). -/
theorem evalPeers_unpaced {s : State}
    (hold : peerHoldCondition s.settings.group s.peers.entries = true → (s.entry .peerHold).condition = true)
    (unload : peerUnloadCondition s.settings.group s.peers.entries = true → (s.entry .peerUnload).condition = true)
    (lost : peerLostCondition s.settings.group s.peers.entries = true → (s.entry .peerLost).condition = true) :
    Unpaced s (evalPeers s) := by
  refine ((report_unpaced hold).trans (report_unpaced fun h => ?_)).trans (report_unpaced fun h => ?_)
  · rw [report, reportWith_entry_other (by simp) (by simp) (by simp)]
    exact unload h
  · rw [report, reportWith_entry_other (by simp) (by simp) (by simp), report,
      reportWith_entry_other (by simp) (by simp) (by simp)]
    exact lost h

theorem pushNotices_entry (ns : List Notice) (s : State) (c : Cause) : (pushNotices ns s).entry c = s.entry c := by
  induction ns generalizing s with
  | nil => rfl
  | cons n ns ih => exact (ih _).trans rfl

theorem pushNotices_unpaced (ns : List Notice) (s : State) : Unpaced s (pushNotices ns s) :=
  ⟨(HallLine.pushNotices_peersReported ns s).confined, by rw [pushNotices_program]⟩

/-! ### Entries removed (R106, R107) -/

/-- Removed entries leave with their notices, and the conditions are evaluated behind them. -/
theorem removePeers_eq (why : ForgetReason) (gone : Peer → Bool) (s : State) : removePeers why gone s =
    noticed ((s.peers.entries.filter gone).map fun e => .peerForgotten e.id why)
      (s.peers.entries.filter fun e => !gone e) s := rfl

/-- Entries removed from a table whose conditions stand as it gives them: conditions fall at most. -/
theorem removePeers_unpaced (why : ForgetReason) (gone : Peer → Bool) {s : State} (h : peerConditionLaw s) :
    Unpaced (setPeers (s.peers.entries.filter fun e => !gone e) s) (removePeers why gone s) := by
  obtain ⟨hold, unload, lost⟩ := h
  rw [removePeers_eq, noticed]
  generalize (s.peers.entries.filter gone).map (fun e => Notice.peerForgotten e.id why) = ns
  have pushed := pushNotices_unpaced ns (setPeers (s.peers.entries.filter fun e => !gone e) s)
  refine pushed.trans (evalPeers_unpaced ?_ ?_ ?_) <;>
    rw [pushNotices_entry, setPeers_entry, pushed.confined.settings, pushed.confined.peers]
  · rw [hold]; exact any_of_any_filter
  · rw [unload]; exact any_of_any_filter
  · rw [lost]; exact any_of_any_filter

/-- Where an entry is removed, the first notice stored is that entry's (R106, R190). -/
theorem removePeers_notice {why : ForgetReason} {gone : Peer → Bool} {s : State} {e : Peer} {es : List Peer}
    (h : s.peers.entries.filter gone = e :: es) (few : s.link.notices.length ≤ 30) :
    s.link.notices ++ [⟨s.time, .peerForgotten e.id why⟩] <+: (removePeers why gone s).link.notices := by
  rw [removePeers_eq, h]
  generalize s.peers.entries.filter (fun e => !gone e) = left
  have stored : (pushNotice (.peerForgotten e.id why) (setPeers left s)).link.notices =
      s.link.notices ++ [⟨s.time, .peerForgotten e.id why⟩] := queueNotice_short few _ _
  have rest : noticed ((e :: es).map fun e => .peerForgotten e.id why) left s =
      evalPeers (pushNotices (es.map fun e => .peerForgotten e.id why)
        (pushNotice (.peerForgotten e.id why) (setPeers left s))) := rfl
  have pieces : Pieces false (pushNotice (.peerForgotten e.id why) (setPeers left s))
      (noticed ((e :: es).map fun e => .peerForgotten e.id why) left s) :=
    rest ▸ (pushNotices_pieces _ _).trans (evalPeers_pieces _)
  exact pieces.keepsFront (by simp; omega) (stored ▸ List.prefix_rfl)

/-! ### The command -/

theorem holdsPeer_iff (id : Nat) (s : State) : holdsPeer id s = true ↔ ∃ e ∈ s.peers.entries, e.id = id := by
  simp [holdsPeer]

theorem byteOf_false : byteOf false = [0#8] := by decide

theorem byteOf_true : byteOf true = [1#8] := by decide

theorem cmdForget_unheld {id : Nat} {s : State} (h0 : id ≠ 0) (h : holdsPeer id s = false) :
    cmdForget id s = (s, ⟨.ok, [0#8]⟩) := by
  simp [cmdForget, h0, forgetPeer, h, accept, byteOf_false]

theorem cmdForget_held {id : Nat} {s : State} (h0 : id ≠ 0) (h : holdsPeer id s = true) :
    cmdForget id s = (removePeers .forget (fun e => decide (e.id = id)) s, ⟨.ok, [1#8]⟩) := by
  simp [cmdForget, h0, forgetPeer, h, accept, byteOf_true]

/-- Settles O28: an entry's removal lets the peer conditions fall at most, and a fall moves neither trim nor pacing. -/
theorem forgetRemovesTheNamedEntry : Obligations.ForgetRemovesTheNamedEntry := by
  intro id s hr law
  have id0 : id ≠ 0#8 → id.toNat ≠ 0 := fun h k => h (BitVec.eq_of_toNat_eq k)
  refine ⟨fun h => ?_, fun h none => ?_, fun h held => ?_⟩
  · exact answersOnly_of_body (r := ⟨.range, []⟩) rfl rfl hr (by subst h; rfl)
  · refine answersOnly_of_body (r := ⟨.ok, [0#8]⟩) rfl rfl hr (cmdForget_unheld (id0 h) ?_)
    rw [← Bool.not_eq_true, holdsPeer_iff]
    exact fun ⟨e, he, k⟩ => none e he k
  · have work := removePeers_unpaced .forget (fun e => decide (e.id = id.toNat)) law
    have answered := answered_afterReply (c := .forget id) (code := 0x50#8) (r := ⟨.ok, [1#8]⟩) (s := s)
      work.confined.host
    refine ⟨_, exec_of_body rfl rfl hr (cmdForget_held (id0 h) ((holdsPeer_iff _ _).mpr held)),
      afterReply_answers _ _ _ _, ?_, HallLine.Answered.peerConditionLaw answered (evalPeers_peerConditionLaw _), ?_,
      fun few => ?_⟩
    · rw [afterReply_peers, work.confined.peers]
      simp only [ne_eq, decide_not]
      rfl
    · rw [afterReply_program, work.paced]
      rfl
    · obtain ⟨e, he, named⟩ := held
      obtain ⟨first, es, found⟩ : ∃ first es,
          s.peers.entries.filter (fun e => decide (e.id = id.toNat)) = first :: es :=
        List.exists_cons_of_ne_nil (List.ne_nil_of_mem (List.mem_filter.mpr ⟨he, decide_eq_true named⟩))
      have first_id : first.id = id.toNat := by
        have member := found ▸ List.mem_cons_self
        exact of_decide_eq_true (List.mem_filter.mp member).2
      obtain ⟨later, stands⟩ := removePeers_notice (why := .forget) found few
      rw [afterReply_notices, ← stands, first_id]
      simp

end Sys2Proof.PeerTable

/-! ## The chatter window and the rate window (R103, R177, R180 to R182) -/

namespace Sys2Proof.PeerTable

open Sys2Proof Sys2Proof.Machine Sys2Proof.Laws Sys2Proof.Safety Sys2Proof.Claims Sys2Proof.Postures
open Sys2Proof.LoadProgram

/-! ### The alarm latch at the window's end (R180, R181) -/

theorem belowLimit_iff (count limit : Nat) : belowLimit count limit = true ↔ limit = 0 ∨ count < limit := by
  simp [belowLimit]

/-- A count that reaches its limit, and a condition that is false, leave the alarm latch (R180). -/
theorem windowAlarm_stands {cfg : CrackSettings} {c : CrackChannel}
    (h : (cfg.rateLimit ≠ 0 ∧ cfg.rateLimit ≤ c.closedHits) ∨
      (cfg.felicityLimit ≠ 0 ∧ cfg.felicityLimit ≤ c.closedFelicity) ∨ c.alarm.condition = false) :
    windowAlarm cfg c = c.alarm := by
  refine if_neg ?_
  simp only [Bool.and_eq_true, belowLimit_iff]
  rintro ⟨⟨condition, rate⟩, felicity⟩
  rw [condition] at h
  obtain h | h | h := h
  · omega
  · omega
  · cases h

/-- With both counts below their limits a true condition falls, and the latch clears behind it where its ack is pending
in LEVEL mode (R180, R181). -/
theorem windowAlarm_falls {cfg : CrackSettings} {c : CrackChannel}
    (rate : cfg.rateLimit = 0 ∨ c.closedHits < cfg.rateLimit)
    (felicity : cfg.felicityLimit = 0 ∨ c.closedFelicity < cfg.felicityLimit) (condition : c.alarm.condition = true) :
    (windowAlarm cfg c).condition = false ∧
    ((windowAlarm cfg c).latched = true ↔
      c.alarm.latched = true ∧ ¬(c.alarm.ackPending = true ∧ cfg.mode = .level)) := by
  have falls : windowAlarm cfg c =
      if c.alarm.latched && c.alarm.ackPending && decide (cfg.mode = .level) then
        { c.alarm with condition := false, latched := false, ackPending := false }
      else { c.alarm with condition := false } :=
    if_pos (by simp only [condition, (belowLimit_iff _ _).mpr rate, (belowLimit_iff _ _).mpr felicity, Bool.and_self])
  rw [falls]
  split
  next h =>
    simp only [Bool.and_eq_true, decide_eq_true_eq] at h
    simp [h]
  next h =>
    simp only [Bool.and_eq_true, decide_eq_true_eq, not_and] at h
    exact ⟨rfl, fun latched => ⟨latched, fun k => h ⟨latched, k.1⟩ k.2⟩, fun k => k.1⟩

/-! ### One channel -/

/-- A channel's record behind a rate window expiry (R177). -/
def windowRecord (cfg : CrackSettings) (c : CrackChannel) : CrackChannel :=
  { closeWindow c with alarm := windowAlarm cfg (closeWindow c) }

/-- What a rate window expiry leaves of the state around the crack channels and the posture controller's work. -/
structure AroundWindow (s t : State) : Prop where
  timers : t.timers = s.timers
  settings : t.settings = s.settings
  strain : t.strain = s.strain
  fifo : t.crack.fifo = s.crack.fifo
  gap : t.crack.gap = s.crack.gap

theorem AroundWindow.refl (s : State) : AroundWindow s s := ⟨rfl, rfl, rfl, rfl, rfl⟩

theorem AroundWindow.trans {a b c : State} (h : AroundWindow a b) (k : AroundWindow b c) : AroundWindow a c :=
  ⟨k.timers.trans h.timers, k.settings.trans h.settings, k.strain.trans h.strain, k.fifo.trans h.fifo,
    k.gap.trans h.gap⟩

section
variable (i : Fin 8) (s : State)

theorem windowChannel_eq : windowChannel i s =
    evalCrack true i (setCrackChannel i (windowRecord s.settings.crack[i] s.crack.channels[i]) s) := rfl

theorem windowChannel_keeps : Keeps
    (setCrackChannel i (windowRecord s.settings.crack[i] s.crack.channels[i]) s) (windowChannel i s) := by
  rw [windowChannel_eq]
  exact reportWith_keeps _ _ _ _

theorem windowChannel_around : AroundWindow s (windowChannel i s) := by
  have k := windowChannel_keeps i s
  exact ⟨k.timers, k.settings, k.strain, (congrArg Crack.fifo k.crack).trans rfl,
    (congrArg Crack.gap k.crack).trans rfl⟩

theorem windowChannel_channel (j : Fin 8) : (windowChannel i s).crack.channels[j] =
    if i = j then windowRecord s.settings.crack[i] s.crack.channels[i] else s.crack.channels[j] := by
  rw [(windowChannel_keeps i s).crack, setCrackChannel_getElem]

/-- The CRACK condition is that of the closed channel (R182). -/
theorem windowChannel_condition : ((windowChannel i s).entry (.crack i)).condition =
    crackCondition s.settings.crack[i] (windowRecord s.settings.crack[i] s.crack.channels[i]) := by
  rw [windowChannel_eq, evalCrack, reportWith_condition (by simp) (by simp), setCrackChannel_getElem, if_pos rfl]
  rfl

theorem windowChannel_entry_crack {j : Fin 8} (h : j ≠ i) :
    (windowChannel i s).entry (.crack j) = s.entry (.crack j) := by
  rw [windowChannel_eq, evalCrack, reportWith_entry_other (by simpa using h) (by simp) (by simp)]
  rfl

theorem windowChannel_latched {d : Cause} (h : ∀ ch, d ≠ .crack ch) :
    ((windowChannel i s).entry d).latched = (s.entry d).latched := by
  rw [windowChannel_eq, evalCrack, reportWith_latched_other (h i)]
  rfl

end

/-! ### The channels in their order -/

/-- The channels of a list with their windows closed. -/
structure WindowsClosed (l : List (Fin 8)) (s t : State) : Prop where
  around : AroundWindow s t
  latched : ∀ d, (∀ ch, d ≠ .crack ch) → (t.entry d).latched = (s.entry d).latched
  closed : ∀ i ∈ l, t.crack.channels[i] = windowRecord s.settings.crack[i] s.crack.channels[i] ∧
    (t.entry (.crack i)).condition = crackCondition s.settings.crack[i] t.crack.channels[i]
  others : ∀ i, i ∉ l → t.crack.channels[i] = s.crack.channels[i] ∧ t.entry (.crack i) = s.entry (.crack i)

/-- Channels closed one after another: each as if alone (R177). -/
theorem windowChannel_foldl (l : List (Fin 8)) (hl : l.Nodup) (s : State) :
    WindowsClosed l s (l.foldl (fun s i => windowChannel i s) s) := by
  induction l generalizing s with
  | nil => exact ⟨.refl s, fun _ _ => rfl, fun _ h => absurd h (by simp), fun _ _ => ⟨rfl, rfl⟩⟩
  | cons i l ih =>
    obtain ⟨hi, hl⟩ := List.nodup_cons.mp hl
    obtain ⟨around, latched, closed, others⟩ := ih hl (windowChannel i s)
    have first := windowChannel_around i s
    rw [first.settings] at closed
    refine ⟨first.trans around, fun d hd => (latched d hd).trans (windowChannel_latched i s hd), fun j hj => ?_,
      fun j hj => ?_⟩
    · obtain rfl | hj := List.mem_cons.mp hj
      · obtain ⟨channel, entry⟩ := others j hi
        rw [windowChannel_channel, if_pos rfl] at channel
        exact ⟨channel, by rw [List.foldl_cons, entry, windowChannel_condition, channel]⟩
      · have record := (closed j hj).1
        rw [windowChannel_channel, if_neg fun h : i = j => hi (h ▸ hj)] at record
        exact ⟨record, (closed j hj).2⟩
    · obtain ⟨hji, hj⟩ := not_or.mp (mt List.mem_cons.mpr hj)
      obtain ⟨channel, entry⟩ := others j hj
      rw [windowChannel_channel, if_neg (Ne.symm hji)] at channel
      exact ⟨channel, entry.trans (windowChannel_entry_crack i s hji)⟩

/-- The rate window timer started anew (R177). -/
def rearmRateWindow (s : State) : State :=
  { s with timers := { s.timers with rateWindow := s.settings.rateWindow * 100000 } }

theorem rateExpiry_closed (s : State) : WindowsClosed (List.finRange 8) (rearmRateWindow s) (rateExpiry s) :=
  windowChannel_foldl _ (List.nodup_finRange 8) _

/-- Settles O41: the chatter window by its definition, the rate window channel by channel. -/
theorem windowExpiriesCloseTheirCounts : Obligations.WindowExpiriesCloseTheirCounts := by
  refine ⟨fun s => rfl, fun s => ⟨rateExpiry s, rfl, ?_⟩⟩
  obtain ⟨around, latched, closed, -⟩ := rateExpiry_closed s
  generalize rateExpiry s = t at around latched closed
  refine ⟨around.timers, around.settings, around.fifo, around.gap, around.strain, latched, fun i => ?_⟩
  obtain ⟨record, condition⟩ := closed i (List.mem_finRange i)
  change t.crack.channels[i] = windowRecord s.settings.crack[i] s.crack.channels[i] at record
  have alarm : t.crack.channels[i].alarm = windowAlarm s.settings.crack[i] (closeWindow s.crack.channels[i]) := by
    rw [record]; rfl
  refine ⟨by rw [record]; rfl, condition, ?_, ?_⟩ <;> rw [alarm]
  · exact windowAlarm_stands (c := closeWindow s.crack.channels[i])
  · exact windowAlarm_falls (c := closeWindow s.crack.channels[i])

end Sys2Proof.PeerTable

/-! ## The share trim at an own report period (R113, R114) -/

namespace Sys2Proof.PeerTable

open Sys2Proof Sys2Proof.Machine Sys2Proof.Laws Sys2Proof.Safety Sys2Proof.Claims Sys2Proof.Postures
open Sys2Proof.LoadProgram

/-! ### An aging that leaves the peer conditions as they were -/

/-- Conditions that already are those of the table move nothing when they are evaluated (R5, R108). -/
theorem evalPeers_of_law {s : State} (h : peerConditionLaw s) : evalPeers s = s := by
  obtain ⟨hold, unload, lost⟩ := h
  rw [evalPeers, report_of_held hold, report_of_held unload, report_of_held lost]

theorem pushNotices_link_only (ns : List Notice) (s : State) :
    pushNotices ns s = { s with link := (pushNotices ns s).link } := by
  induction ns generalizing s with
  | nil => rfl
  | cons n ns ih => exact ih (pushNotice n s)

/-- Conditions that stand before the aged table stand behind it: the evaluation leaves the notices alone (R104). -/
theorem agedAndEvaluated_of_law {s : State}
    (h : peerConditionLaw (setPeers (agedEntries s.settings s.peers.entries) s)) :
    agedAndEvaluated s = pushNotices (s.peers.entries.flatMap (ageNotices s.settings))
      (setPeers (agedEntries s.settings s.peers.entries) s) := by
  refine evalPeers_of_law ?_
  rw [pushNotices_link_only]
  exact h

/-! ### The step (R114) -/

theorem trimAfter_alone (st : Settings) (load trim : Int) : trimAfter st load [] trim = trim := rfl

theorem trimAfter_shared {share : List Peer} (h : share ≠ []) (st : Settings) (load trim : Int) :
    trimAfter st load share trim = clampTo (-st.trimLimit) st.trimLimit (trim +
      ((((load + (share.map fun e => e.load).sum) * st.weight).tdiv
        (st.weight + (share.map fun e => (e.weight : Int)).sum) - load) * st.shareGain).tdiv 256) :=
  if_neg (by rwa [List.isEmpty_iff])

theorem stepTrim_trim {s : State} (h : s.posture = .run ∨ s.posture = .hold) : (stepTrim s).peers.trim =
    trimAfter s.settings s.loadNow (s.peers.entries.filter (inShareSet s.settings.group)) s.peers.trim := by
  rw [stepTrim, if_pos h]

/-- Where the conditions stand, an aging pass works the table, the trim, the pacing and the notices alone (R104). -/
theorem agingPass_of_law {s : State} {aged : List Peer} (hp : s.posture = .run ∨ s.posture = .hold)
    (ha : aged = agedEntries s.settings s.peers.entries) (h : peerConditionLaw (setPeers aged s)) :
    agingPass s = { s with
      program := (agingPass s).program, link := (agedAndEvaluated s).link
      peers := { s.peers with
        entries := aged
        trim := trimAfter s.settings s.loadNow (aged.filter (inShareSet s.settings.group)) s.peers.trim } } := by
  subst ha
  have evaluated : agedAndEvaluated s = { setPeers (agedEntries s.settings s.peers.entries) s with
      link := (agedAndEvaluated s).link } := by
    rw [agedAndEvaluated_of_law h]
    exact pushNotices_link_only _ _
  have frame := agingPass_eq s
  generalize agedAndEvaluated s = u at evaluated frame
  have posture : u.posture = .run ∨ u.posture = .hold := by rwa [evaluated]
  rw [stepTrim_trim posture, evaluated] at frame
  exact frame

/-- Settles O40: standing conditions bring no posture work, so the pass is the step of R114 between its frames. -/
theorem reportPeriodStepsTheTrim : Obligations.ReportPeriodStepsTheTrim := by
  intro s aged share total weights d hp haged hold unload lost hshare htotal hweights hd
  have posture : (reportPeriodLine s).posture = .run ∨ (reportPeriodLine s).posture = .hold := by
    rwa [reportPeriodLine_eq]
  have table : aged = agedEntries (reportPeriodLine s).settings (reportPeriodLine s).peers.entries := by
    rwa [reportPeriodLine_eq]
  have law : peerConditionLaw (setPeers aged (reportPeriodLine s)) := by
    rw [reportPeriodLine_eq]
    exact ⟨hold, unload, lost⟩
  refine ⟨agingPass (reportPeriodLine s), rfl, ?_⟩
  rw [agingPass_of_law posture table law, reportPeriodLine_eq]
  refine ⟨rfl, rfl, rfl, fun alone => ?_, fun shared => ?_⟩
  · simp only [← hshare, alone, trimAfter_alone]
  · subst hd htotal hweights
    rw [hshare] at shared ⊢
    exact trimAfter_shared shared _ _ _

end Sys2Proof.PeerTable

/-! ## Settings read behind a write (R188, R189, R201) -/

namespace Sys2Proof.Survey

open Sys2Proof Sys2Proof.Machine Sys2Proof.Laws Sys2Proof.Safety Sys2Proof.Claims Sys2Proof.Postures

/-- The number is that of a setting that the station holds once (R201). -/
abbrev Scalar (number : Nat) : Prop :=
  (1 ≤ number ∧ number ≤ 25) ∨ (30 ≤ number ∧ number ≤ 38) ∨ (51 ≤ number ∧ number ≤ 54) ∨
    (66 ≤ number ∧ number ≤ 70)

/-- The settings that the station holds once, each at its number; 0 elsewhere (R201). -/
def scalarValues (st : Settings) : List Int :=
  0 :: st.stationId :: st.group :: st.weight :: st.reportPeriod :: st.floor :: st.ceiling :: st.unloadFloor :: st.kp ::
    st.ki :: st.integratorLimit :: st.valveLimit :: st.slewLimit :: st.followingLimit :: st.followingCount ::
    st.valveSatLimit :: st.valveSatClass.code :: st.strokeMin :: st.strokeMax :: st.staleLimit :: st.unloadStep ::
    st.settleBand :: st.settleTime :: st.rampStepMax :: st.jumpTolerance :: st.debounceTime :: 0 :: 0 :: 0 :: 0 ::
    boolCode st.unloadCmdHallStop :: st.chatterLimit :: st.peerLostLimit :: st.forgetLimit :: st.peerLostClass.code ::
    st.shareGain :: st.trimLimit :: st.leadLimit :: st.holdRenewTime :: 0 :: 0 :: 0 :: 0 :: 0 :: 0 :: 0 :: 0 :: 0 ::
    0 :: 0 :: 0 :: st.referenceCycles :: st.driftLimit :: st.driftCount :: st.driftClass.code :: 0 :: 0 :: 0 :: 0 ::
    0 :: 0 :: 0 :: 0 :: 0 :: 0 :: 0 :: st.rateWindow :: st.felicityMinPeak :: st.felicityRatio :: st.hostSilence ::
    st.hostSilentClass.code :: []

/-- What a setting holds of a value written into it (R188, R201). -/
def storedValue (number : Nat) (v : Int) : Int :=
  match number with
  | 5 | 6 | 7 | 17 | 18 | 42 | 43 | 44 | 45 | 46 => v
  | 16 | 27 | 34 | 54 | 62 | 70 => (Class.ofCode v).code
  | 28 | 64 => (Mode.ofCode v).code
  | 48 => (Action.ofCode v).code
  | 26 | 29 | 30 | 39 | 41 | 49 | 50 | 55 | 63 | 65 => boolCode (boolOfCode v)
  | 59 => ((if v = 0 then none else some v.toNat).getD 0 : Nat)
  | _ => v.toNat

/-! ### The settings held once -/

theorem readSetting_scalar {number : Nat} (h : Scalar number) (index : Nat) (st : Settings) :
    readSetting number index st = (scalarValues st).getD number 0 := by
  unfold readSetting
  rw [if_neg (by omega), if_neg (by omega), if_neg (by omega)]
  split
  case h_44 => obtain ⟨_, _⟩ | ⟨_, _⟩ | ⟨_, _⟩ | ⟨_, _⟩ := h <;> interval_cases number <;> contradiction
  all_goals rfl

theorem scalarValues_writeSetting {number : Nat} (h : Scalar number) (index : Nat) (v : Int) (st : Settings) :
    scalarValues (writeSetting number index v st) = (scalarValues st).set number (storedValue number v) := by
  unfold writeSetting
  rw [if_neg (by omega), if_neg (by omega), if_neg (by omega)]
  split
  case h_44 => obtain ⟨_, _⟩ | ⟨_, _⟩ | ⟨_, _⟩ | ⟨_, _⟩ := h <;> interval_cases number <;> contradiction
  all_goals rfl

theorem writeSetting_scalar_tables {number : Nat} (h : Scalar number) (index : Nat) (v : Int) (st : Settings) :
    (writeSetting number index v st).interlock = st.interlock ∧ (writeSetting number index v st).strain = st.strain ∧
      (writeSetting number index v st).crack = st.crack := by
  unfold writeSetting
  rw [if_neg (by omega), if_neg (by omega), if_neg (by omega)]
  split <;> exact ⟨rfl, rfl, rfl⟩

/-! ### The settings held for each line and channel -/

theorem readLineSetting_writeLineSetting {n m : Nat} (hn : 26 ≤ n ∧ n ≤ 29) (hm : 26 ≤ m ∧ m ≤ 29) (v : Int)
    (l : LineSettings) :
    readLineSetting n (writeLineSetting m v l) = if n = m then storedValue m v else readLineSetting n l := by
  obtain ⟨n1, n2⟩ := hn
  obtain ⟨m1, m2⟩ := hm
  interval_cases m <;> interval_cases n <;> rfl

theorem readStrainSetting_writeStrainSetting {n m : Nat} (hn : 39 ≤ n ∧ n ≤ 50) (hm : 39 ≤ m ∧ m ≤ 50) (v : Int)
    (c : StrainSettings) :
    readStrainSetting n (writeStrainSetting m v c) = if n = m then storedValue m v else readStrainSetting n c := by
  obtain ⟨n1, n2⟩ := hn
  obtain ⟨m1, m2⟩ := hm
  interval_cases m <;> interval_cases n <;> rfl

theorem readCrackSetting_writeCrackSetting {n m : Nat} (hn : 55 ≤ n ∧ n ≤ 65) (hm : 55 ≤ m ∧ m ≤ 65) (v : Int)
    (c : CrackSettings) :
    readCrackSetting n (writeCrackSetting m v c) = if n = m then storedValue m v else readCrackSetting n c := by
  obtain ⟨n1, n2⟩ := hn
  obtain ⟨m1, m2⟩ := hm
  interval_cases m <;> interval_cases n <;> rfl

/-- A setting is one of those held once, or one of a line, a strain channel or a crack channel (R201). -/
theorem settingExists_cases {number index : Nat} (h : settingExists number index = true) :
    (Scalar number ∧ index = 0) ∨ ((26 ≤ number ∧ number ≤ 29) ∧ index < 4) ∨
      ((39 ≤ number ∧ number ≤ 50) ∧ index < 32) ∨ ((55 ≤ number ∧ number ≤ 65) ∧ index < 8) := by
  unfold settingExists settingRange at h
  split at h
  next h' => cases h
  next k r hr =>
  split at hr <;> cases hr <;> simp [Scalar] at h ⊢ <;> omega

/-! ### Every setting -/

theorem readSetting_line {number : Nat} (h : 26 ≤ number ∧ number ≤ 29) {index : Nat} (hi : index < 4) (st : Settings) :
    readSetting number index st = readLineSetting number st.interlock[index] := by
  simp [readSetting, h, hi]

theorem readSetting_strain {number : Nat} (h : 39 ≤ number ∧ number ≤ 50) {index : Nat} (hi : index < 32)
    (st : Settings) : readSetting number index st = readStrainSetting number st.strain[index] := by
  simp [readSetting, h, hi, show ¬number ≤ 29 by omega]

theorem readSetting_crack {number : Nat} (h : 55 ≤ number ∧ number ≤ 65) {index : Nat} (hi : index < 8)
    (st : Settings) : readSetting number index st = readCrackSetting number st.crack[index] := by
  simp [readSetting, h, hi, show ¬number ≤ 29 by omega, show ¬number ≤ 50 by omega]

theorem scalarValues_length (st : Settings) : (scalarValues st).length = 71 := rfl

/-- A setting written reads as what it holds of the value, and every other setting reads as before (R188, R189). -/
theorem readSetting_writeSetting {n j m i : Nat} (hn : settingExists n j = true) (hm : settingExists m i = true)
    (v : Int) (st : Settings) : readSetting n j (writeSetting m i v st) =
      if n = m ∧ j = i then storedValue m v else readSetting n j st := by
  obtain ⟨km, rfl⟩ | ⟨km, bm⟩ | ⟨km, bm⟩ | ⟨km, bm⟩ := settingExists_cases hm
  · obtain ⟨interlock, strain, crack⟩ := writeSetting_scalar_tables km 0 v st
    obtain ⟨kn, rfl⟩ | ⟨kn, bn⟩ | ⟨kn, bn⟩ | ⟨kn, bn⟩ := settingExists_cases hn
    · have room : m < (scalarValues st).length := by rw [scalarValues_length]; omega
      rw [readSetting_scalar kn, readSetting_scalar kn, scalarValues_writeSetting km, List.getD_eq_getElem?_getD,
        List.getD_eq_getElem?_getD, List.getElem?_set]
      by_cases h : m = n
      · simp [h, h ▸ room]
      · simp [h, Ne.symm h]
    · rw [readSetting_line kn bn, readSetting_line kn bn, if_neg (by omega)]; simp only [interlock]
    · rw [readSetting_strain kn bn, readSetting_strain kn bn, if_neg (by omega)]; simp only [strain]
    · rw [readSetting_crack kn bn, readSetting_crack kn bn, if_neg (by omega)]; simp only [crack]
  · rw [writeSetting_line (l := ⟨i, bm⟩) km rfl]
    obtain ⟨kn, rfl⟩ | ⟨kn, bn⟩ | ⟨kn, bn⟩ | ⟨kn, bn⟩ := settingExists_cases hn
    · rw [readSetting_scalar kn, readSetting_scalar kn, if_neg (by omega)]; rfl
    · simp only [readSetting_line kn bn, Vector.getElem_set, eq_comm (a := i), Fin.getElem_fin]
      by_cases h : j = i
      · subst h; simp [readLineSetting_writeLineSetting kn km]
      · simp [h]
    · rw [readSetting_strain kn bn, readSetting_strain kn bn, if_neg (by omega)]
    · rw [readSetting_crack kn bn, readSetting_crack kn bn, if_neg (by omega)]
  · rw [writeSetting_strain (i := ⟨i, bm⟩) km rfl]
    obtain ⟨kn, rfl⟩ | ⟨kn, bn⟩ | ⟨kn, bn⟩ | ⟨kn, bn⟩ := settingExists_cases hn
    · rw [readSetting_scalar kn, readSetting_scalar kn, if_neg (by omega)]; rfl
    · rw [readSetting_line kn bn, readSetting_line kn bn, if_neg (by omega)]
    · simp only [readSetting_strain kn bn, Vector.getElem_set, eq_comm (a := i), Fin.getElem_fin]
      by_cases h : j = i
      · subst h; simp [readStrainSetting_writeStrainSetting kn km]
      · simp [h]
    · rw [readSetting_crack kn bn, readSetting_crack kn bn, if_neg (by omega)]
  · rw [writeSetting_crack (i := ⟨i, bm⟩) km rfl]
    obtain ⟨kn, rfl⟩ | ⟨kn, bn⟩ | ⟨kn, bn⟩ | ⟨kn, bn⟩ := settingExists_cases hn
    · rw [readSetting_scalar kn, readSetting_scalar kn, if_neg (by omega)]; rfl
    · rw [readSetting_line kn bn, readSetting_line kn bn, if_neg (by omega)]
    · rw [readSetting_strain kn bn, readSetting_strain kn bn, if_neg (by omega)]
    · simp only [readSetting_crack kn bn, Vector.getElem_set, eq_comm (a := i), Fin.getElem_fin]
      by_cases h : j = i
      · subst h; simp [readCrackSetting_writeCrackSetting kn km]
      · simp [h]

/-! ### A value in its range is held as it is -/

/-- Only forces, strains and strokes take negative values (R201). -/
theorem nonneg_of_inSettingRange {number : Nat} {v : Int} (h : inSettingRange number v = true)
    (hs : number ∉ [5, 6, 7, 17, 18, 42, 43, 44, 45, 46]) : 0 ≤ v := by
  unfold inSettingRange settingRange at h
  split at h <;> simp [within] at h hs <;> omega

theorem code_ofCode_class {v : Int} (h : 0 ≤ v ∧ v ≤ 3) : ((Class.ofCode v).code : Int) = v := by
  obtain ⟨_, _⟩ := h
  interval_cases v <;> rfl

theorem code_ofCode_mode {v : Int} (h : 0 ≤ v ∧ v ≤ 2) : ((Mode.ofCode v).code : Int) = v := by
  obtain ⟨_, _⟩ := h
  interval_cases v <;> rfl

theorem code_ofCode_action {v : Int} (h : 0 ≤ v ∧ v ≤ 3) : ((Action.ofCode v).code : Int) = v := by
  obtain ⟨_, _⟩ := h
  interval_cases v <;> rfl

theorem boolCode_boolOfCode {v : Int} (h : 0 ≤ v ∧ v ≤ 1) : boolCode (boolOfCode v) = v := by
  obtain ⟨_, _⟩ := h
  interval_cases v <;> rfl

/-- A value in its setting's range is held as it is (R188, R201). -/
theorem storedValue_of_range {number : Nat} {v : Int} (h : inSettingRange number v = true) :
    storedValue number v = v := by
  have nonneg := nonneg_of_inSettingRange h
  have within_iff : ∀ lo hi : Int, within lo hi v = true ↔ lo ≤ v ∧ v ≤ hi := fun lo hi => by simp [within]
  unfold storedValue
  split
  iterate 10 next => rfl
  all_goals
    simp only [inSettingRange, settingRange, Option.any_some, within_iff, Bool.or_eq_true, decide_eq_true_eq] at h
  iterate 6 next => exact code_ofCode_class (by omega)
  iterate 2 next => exact code_ofCode_mode (by omega)
  · exact code_ofCode_action h
  iterate 10 next => exact boolCode_boolOfCode h
  · split <;> simp <;> omega
  next =>
    refine Int.toNat_of_nonneg (nonneg ?_)
    clear h nonneg within_iff
    simp_all

end Sys2Proof.Survey

/-! ## The clauses of the laws of settings, strain, crack and derate demand -/

namespace Sys2Proof.Survey

open Sys2Proof Sys2Proof.Machine Sys2Proof.Laws Sys2Proof.Safety Sys2Proof.Claims Sys2Proof.Postures
open Sys2Proof.LoadProgram

/-- The four laws cut into clauses: the settings with the zeroings, the cause of each strain and crack channel, and the
derate demand. -/
inductive Clause where
  | settings
  | strain (i : Fin 32)
  | crack (i : Fin 8)
  | derate

/-- The STRAIN condition is R142's, and no entry stands true without its latch. -/
def StrainStands (s : State) (i : Fin 32) : Prop :=
  (s.entry (.strain i)).condition = strainCondition s.settings.strain[i] s.strain.channels[i] ∧
  ((s.entry (.strain i)).condition = true → (s.entry (.strain i)).latched = true)

/-- What a clause says of a state. -/
def Clause.holds (l : Clause) (s : State) : Prop :=
  match l with
  | .settings => settingsLaw s
  | .strain i => StrainStands s i
  | .crack i => CrackStands s i
  | .derate => derateLaw s

/-- The cause entry that a clause speaks of. -/
def Clause.cause : Clause → Option Cause
  | .settings | .derate => none
  | .strain i => some (.strain i)
  | .crack i => some (.crack i)

/-- Work that keeps every clause but those listed. -/
def KeptBut (b : List Clause) (s t : State) : Prop := ∀ l, l ∉ b → l.holds s → l.holds t

/-- Work that keeps every clause. -/
abbrev Kept : State → State → Prop := KeptBut []

theorem KeptBut.refl (b : List Clause) (s : State) : KeptBut b s s := fun _ _ h => h

theorem KeptBut.trans {b : List Clause} {s t u : State} (h : KeptBut b s t) (k : KeptBut b t u) : KeptBut b s u :=
  fun l hl hs => k l hl (h l hl hs)

theorem KeptBut.followed {b : List Clause} {s t u : State} (h : KeptBut b s t) (k : Kept t u) : KeptBut b s u :=
  fun l hl hs => k l List.not_mem_nil (h l hl hs)

/-- A clause of the list that the work establishes leaves the list. -/
theorem KeptBut.settle {l : Clause} {b : List Clause} {s t : State} (h : KeptBut (l :: b) s t)
    (k : l.holds s → l.holds t) : KeptBut b s t := fun m hm hs => by
  by_cases e : m = l
  · subst e; exact k hs
  · exact h m (by simp [e, hm]) hs

theorem foldl_keeps {α : Type} {f : State → α → State} (h : ∀ s x, Kept s (f s x)) (xs : List α) (s : State) :
    Kept s (xs.foldl f s) := by
  induction xs generalizing s with
  | nil => exact .refl _ s
  | cons x xs ih => exact (h s x).trans (ih _)

/-! ### What the clauses rest on -/

/-- The clauses rest on the settings, the strain unit, the crack unit and the entries they speak of. -/
theorem keptBut_of_same {b : List Clause} {s t : State} (settings : t.settings = s.settings)
    (strain : t.strain = s.strain) (crack : t.crack = s.crack)
    (entries : ∀ l, l ∉ b → ∀ c, l.cause = some c → t.entry c = s.entry c) : KeptBut b s t := by
  intro l hl hs
  cases l with
  | settings => simpa only [Clause.holds, settingsLaw, settings, strain] using hs
  | strain i => simpa only [Clause.holds, StrainStands, settings, strain, entries _ hl _ rfl] using hs
  | crack i => simpa only [Clause.holds, CrackStands, settings, crack, entries _ hl _ rfl] using hs
  | derate => simpa only [Clause.holds, derateLaw, settings, strain] using hs

/-- The settings, the two units and the cause table. -/
abbrev grounds (s : State) : Settings × Strain × Crack × Vector CauseEntry 59 :=
  (s.settings, s.strain, s.crack, s.causes)

/-- Work on none of these. -/
theorem KeptBut.aside {s t : State} (h : grounds t = grounds s) : Kept s t := by
  simp only [grounds, Prod.mk.injEq] at h
  obtain ⟨settings, strain, crack, causes⟩ := h
  exact keptBut_of_same settings strain crack fun _ _ c _ => by rw [State.entry, State.entry, causes]

/-- Work that keeps every clause behind work on none of these. -/
theorem KeptBut.behind {s t u : State} (k : Kept t u) (h : grounds t = grounds s) : Kept s u := (aside h).trans k

theorem KeptBut.of_keeps {s t : State} (k : Keeps s t) (causes : t.causes = s.causes) : Kept s t :=
  .aside (by simp only [grounds, k.settings, k.strain, k.crack, causes])

theorem strainCondition_congr {cfg cfg' : StrainSettings} {ch ch' : StrainChannel} (enable : cfg'.enable = cfg.enable)
    (faultStops : cfg'.faultStops = cfg.faultStops) (band : ch'.band = ch.band) :
    strainCondition cfg' ch' = strainCondition cfg ch := by
  rw [strainCondition, strainCondition, enable, faultStops, band]

theorem crackCondition_congr {cfg cfg' : CrackSettings} {ch ch' : CrackChannel} (mask : cfg'.mask = cfg.mask)
    (latched : ch'.alarm.latched = ch.alarm.latched) : crackCondition cfg' ch' = crackCondition cfg ch := by
  rw [crackCondition, crackCondition, mask, latched]

theorem derateCondition_congr {st st' : Settings} {u u' : Strain}
    (enable : ∀ i : Fin 32, st'.strain[i].enable = st.strain[i].enable)
    (action : ∀ i : Fin 32, st'.strain[i].action = st.strain[i].action)
    (band : ∀ i : Fin 32, u'.channels[i].band = u.channels[i].band) :
    derateCondition st' u' = derateCondition st u := by
  unfold derateCondition
  simp only [enable, action, band]

/-- The sum of a zeroing is one of fewer than 64 valid samples (R147). -/
def ZeroingFits (z : Option Zeroing) : Prop := ∀ k ∈ z, k.count ≤ 63 ∧ k.sum.natAbs ≤ k.count * 8388607

/-- Every setting lies in its range (R188, R201). -/
def Ranged (st : Settings) : Prop :=
  ∀ n j, settingExists n j = true → inSettingRange n (readSetting n j st) = true

theorem settingsLaw_iff (s : State) : settingsLaw s ↔
    Ranged s.settings ∧ ∀ i : Fin 32, ZeroingFits s.strain.channels[i].zeroing := by
  refine and_congr_left' ⟨fun h n j he => ?_, fun h n _ j _ he => h n j he⟩
  have bounds : n < 71 ∧ j < 32 := by
    obtain ⟨k, rfl⟩ | ⟨k, _⟩ | ⟨k, _⟩ | ⟨k, _⟩ := settingExists_cases he <;> omega
  exact h n bounds.1 j bounds.2 he

/-- Work on the strain unit that leaves the bands and the derate demand. -/
theorem KeptBut.strainUnit {u : Strain} {s : State}
    (bands : ∀ i : Fin 32, u.channels[i].band = s.strain.channels[i].band)
    (zeroings : ∀ i : Fin 32, ZeroingFits s.strain.channels[i].zeroing → ZeroingFits u.channels[i].zeroing)
    (demand : u.derateDemand = s.strain.derateDemand) : Kept s { s with strain := u } := by
  intro l _ hs
  cases l with
  | settings =>
    obtain ⟨ranges, zeros⟩ := (settingsLaw_iff s).mp hs
    exact (settingsLaw_iff _).mpr ⟨ranges, fun i => zeroings i (zeros i)⟩
  | strain i => exact ⟨hs.1.trans (strainCondition_congr rfl rfl (bands i)).symm, hs.2⟩
  | crack i => exact hs
  | derate =>
    exact (demand.trans hs).trans (derateCondition_congr (fun _ => rfl) (fun _ => rfl) bands).symm

/-- Work on the drift records (R152). -/
theorem KeptBut.driftUnit {u : Strain} {s : State} (channels : u.channels = s.strain.channels)
    (demand : u.derateDemand = s.strain.derateDemand) : Kept s { s with strain := u } :=
  .strainUnit (fun i => by rw [channels]) (fun i => by rw [channels]; exact id) demand

/-- A strain channel written (R134). -/
theorem setStrainChannel_keptBut {i : Fin 32} {c : StrainChannel} {s : State}
    (zeroing : ZeroingFits s.strain.channels[i].zeroing → ZeroingFits c.zeroing) :
    KeptBut [.strain i, .derate] s (setStrainChannel i c s) := by
  intro l hl hs
  cases l with
  | settings =>
    obtain ⟨ranges, zeros⟩ := (settingsLaw_iff s).mp hs
    refine (settingsLaw_iff _).mpr ⟨ranges, fun j => ?_⟩
    rw [setStrainChannel_getElem]
    split
    next h => exact zeroing (zeros i)
    · exact zeros j
  | strain j =>
    have other : i ≠ j := fun e => hl (by simp [e])
    refine ⟨?_, hs.2⟩
    rw [setStrainChannel_getElem, if_neg other]
    exact hs.1
  | crack j => exact hs
  | derate => exact absurd (by simp) hl

/-- A crack channel written (R164). -/
theorem setCrackChannel_keptBut (i : Fin 8) (c : CrackChannel) (s : State) :
    KeptBut [.crack i] s (setCrackChannel i c s) := by
  intro l hl hs
  cases l with
  | crack j =>
    have other : i ≠ j := fun e => hl (by simp [e])
    refine ⟨?_, hs.2⟩
    rw [setCrackChannel_getElem, if_neg other]
    exact hs.1
  | _ => exact hs

/-- A crack channel written whose alarm latch stands or stays clear (R182). -/
theorem setCrackChannel_kept {i : Fin 8} {c : CrackChannel} {s : State}
    (h : c.alarm.latched = s.crack.channels[i].alarm.latched) : Kept s (setCrackChannel i c s) :=
  (setCrackChannel_keptBut i c s).settle fun hs => by
    refine ⟨?_, hs.2⟩
    rw [setCrackChannel_getElem, if_pos rfl]
    exact hs.1.trans (crackCondition_congr rfl h).symm

/-! ### Reports and acknowledgements -/

/-- An entry whose condition is true is latched. -/
def Armed (c : Cause) (s : State) : Prop := (s.entry c).condition = true → (s.entry c).latched = true

/-- The causes that neither the strain channels nor the crack channels raise. -/
def Elsewhere : Cause → Prop
  | .strain _ | .crack _ => False
  | _ => True

theorem Clause.cause_plain {l : Clause} {d : Cause} (h : l.cause = some d) : d ≠ .following ∧ d ≠ .valveSat := by
  cases l <;> cases h <;> simp

/-- A report touches the clauses of its own entry alone (R5). -/
theorem reportWith_keptBut {b : List Clause} {c : Cause} (hb : ∀ l : Clause, l.cause = some c → l ∈ b)
    (exit v : Bool) (s : State) : KeptBut b s (reportWith exit c v s) := by
  have k := reportWith_keeps exit c v s
  refine keptBut_of_same k.settings k.strain k.crack fun l hl d hd => ?_
  obtain ⟨hf, hv⟩ := Clause.cause_plain hd
  exact reportWith_entry_other (fun e => hl (hb l (by rw [hd, e]))) hf hv exit v s

theorem elsewhere_cause {c : Cause} (h : Elsewhere c) (l : Clause) (hl : l.cause = some c) :
    l ∈ ([] : List Clause) := by
  cases l <;> cases hl <;> exact h.elim

theorem report_keeps_all (c : Cause) (h : Elsewhere c) (v : Bool) (s : State) : Kept s (report c v s) :=
  reportWith_keptBut (elsewhere_cause h) true v s

theorem pulse_keeps_all (c : Cause) (h : Elsewhere c) (s : State) : Kept s (pulse c s) :=
  (report_keeps_all c h true s).trans (report_keeps_all c h false _)

/-- A condition that rises latches its entry (R6, R7, R8). -/
theorem reportWith_armed {c : Cause} (hf : c ≠ .following) (hv : c ≠ .valveSat) {exit v : Bool} {s : State}
    (h : v = true → Armed c s) : Armed c (reportWith exit c v s) := by
  intro rose
  rw [reportWith_condition hf hv] at rose
  subst rose
  cases hc : (s.entry c).condition with
  | true => rw [reportWith_same hc]; exact h rfl hc
  | false =>
    cases hl : (s.entry c).latched with
    | true =>
      rw [reportWith_rise_latched hl fun k => hf k.1, withCondition_latched]
      exact hl
    | false => exact report_rise_latches exit hc hl

theorem evalCrack_stands {exit : Bool} {i : Fin 8} {s : State}
    (h : crackCondition s.settings.crack[i] s.crack.channels[i] = true → Armed (.crack i) s) :
    CrackStands (evalCrack exit i s) i := by
  have k := reportWith_keeps exit (.crack i) (crackCondition s.settings.crack[i] s.crack.channels[i]) s
  refine ⟨?_, reportWith_armed (by simp) (by simp) h⟩
  rw [evalCrack, reportWith_condition (by simp) (by simp), k.settings, k.crack]

theorem evalStrain_stands {i : Fin 32} {s : State} (h : Armed (.strain i) s) : StrainStands (evalStrain i s) i := by
  have k := report_keeps (.strain i) (strainCondition s.settings.strain[i] s.strain.channels[i]) s
  refine ⟨?_, reportWith_armed (by simp) (by simp) fun _ => h⟩
  rw [evalStrain, k.settings, k.strain]
  exact reportWith_condition (by simp) (by simp) _ _ _

/-- A crack channel's evaluation makes its clause good (R182). -/
theorem KeptBut.evalCrack {i : Fin 8} {b : List Clause} {exit : Bool} {s u : State} (h : KeptBut (.crack i :: b) s u)
    (armed : CrackStands s i → crackCondition u.settings.crack[i] u.crack.channels[i] = true → Armed (.crack i) u) :
    KeptBut b s (evalCrack exit i u) := by
  refine KeptBut.settle (l := .crack i) (fun l hl hs => ?_) fun hs => evalCrack_stands (armed hs)
  exact reportWith_keptBut (b := .crack i :: b) (fun l hl => by cases l <;> cases hl; simp) exit _ u l hl (h l hl hs)

/-- A strain channel's evaluation makes its clause good (R142). -/
theorem KeptBut.evalStrain {i : Fin 32} {b : List Clause} {s u : State} (h : KeptBut (.strain i :: b) s u)
    (entry : u.entry (.strain i) = s.entry (.strain i)) : KeptBut b s (evalStrain i u) := by
  refine KeptBut.settle (l := .strain i) (fun l hl hs => ?_) fun hs => evalStrain_stands ?_
  · exact reportWith_keptBut (b := .strain i :: b) (fun l hl => by cases l <;> cases hl; simp) true _ u l hl (h l hl hs)
  · rw [Armed, entry]; exact hs.2

/-- The evaluation of the derate demand makes its clause good (R143). -/
theorem KeptBut.evalDerate {b : List Clause} {s u : State} (h : KeptBut (.derate :: b) s u) :
    KeptBut b s (evalDerate u) :=
  KeptBut.settle (l := .derate) (fun l hl hs => by
    have held := h l hl hs
    cases l with
    | derate => exact absurd (by simp) hl
    | _ => exact held) fun _ => rfl

/-- An acknowledgement clears no entry that stands true, but in EDGE mode (R6, R7, R8). -/
theorem ackEntry_armed {c : Cause} {s : State} (exit : Bool) (hm : modeOf s.settings c ≠ .edge) (h : Armed c s) :
    Armed c (ackEntry exit c s) := by
  intro stands
  rw [ackEntry_condition] at stands
  have hl := h stands
  cases mode : modeOf s.settings c with
  | edge => exact absurd mode hm
  | level => rw [ackEntry_pends exit hl mode stands, entry_setEntry_same]; exact hl
  | follow => rw [ackEntry_idle exit (.inr mode)]; exact hl

theorem ackEntry_keptBut {b : List Clause} {c : Cause} (hb : ∀ l : Clause, l.cause = some c → l ∈ b)
    (exit : Bool) (s : State) : KeptBut b s (ackEntry exit c s) := by
  have k := ackEntry_keeps exit c s
  exact keptBut_of_same k.settings k.strain k.crack fun l hl d hd =>
    ackEntry_entry_other (fun e => hl (hb l (by rw [hd, e]))) exit s

/-- An acknowledgement keeps every clause: a CRACK entry cleared before its condition falls is one whose alarm latch
clears with it (R181, R182). -/
theorem acknowledge_keeps (exit : Bool) (c : Cause) (s : State) : Kept s (acknowledge exit c s) := by
  have keeps := ackEntry_keeps exit c s
  cases c with
  | crack i =>
    have acked : KeptBut [.crack i] s (ackEntry exit (.crack i) s) :=
      ackEntry_keptBut (fun l hl => by cases l <;> cases hl; simp) exit s
    have passed : KeptBut [.crack i] s (ackedChannel i (ackEntry exit (.crack i) s)) :=
      acked.trans (setCrackChannel_keptBut i _ _)
    refine passed.evalCrack fun stands rises => ?_
    have level : modeOf s.settings (.crack i) = .level := by
      rw [crackCondition, ackedChannel, setCrackChannel_getElem, if_pos rfl, ackAlarm_latched] at rises
      simp only [Bool.and_eq_true, decide_eq_true_eq, setCrackChannel_settings, keeps.settings] at rises
      exact rises.1.1.2
    exact ackEntry_armed exit (by simp [level]) stands.2
  | strain i =>
    have acked : KeptBut [.strain i] s (ackEntry exit (.strain i) s) :=
      ackEntry_keptBut (fun l hl => by cases l <;> cases hl; simp) exit s
    rw [acknowledge_of_uncracked exit (by simp)]
    refine acked.settle fun hs => ⟨?_, ackEntry_armed exit (by simp [modeOf]) hs.2⟩
    rw [ackEntry_condition, keeps.settings, keeps.strain]
    exact hs.1
  | _ => exact ackEntry_keptBut (fun l hl => by cases l <;> cases hl) exit s

end Sys2Proof.Survey

/-! ## Settings written, and what is evaluated behind them -/

namespace Sys2Proof.Survey

open Sys2Proof Sys2Proof.Machine Sys2Proof.Laws Sys2Proof.Safety Sys2Proof.Claims Sys2Proof.Postures
open Sys2Proof.LoadProgram Sys2Proof.PeerTable

theorem settingAllowed_range {n j : Nat} {v : Int} {st : Settings} (h : settingAllowed n j v st = true) :
    settingExists n j = true ∧ inSettingRange n v = true := by
  unfold settingAllowed at h
  unfold settingExists inSettingRange
  split at h <;> simp_all

/-- A value in range written leaves every setting in its range. -/
theorem Ranged.written {n j : Nat} {v : Int} {st : Settings} (h : Ranged st) (he : settingExists n j = true)
    (hv : inSettingRange n v = true) : Ranged (writeSetting n j v st) := by
  intro m i hm
  rw [readSetting_writeSetting hm he]
  split
  next k => rw [storedValue_of_range hv, k.1]; exact hv
  · exact h m i hm

theorem boolCode_injective {a b : Bool} (h : boolCode a = boolCode b) : a = b := by
  revert h; cases a <;> cases b <;> decide

theorem actionCode_injective {a b : Action} (h : (a.code : Int) = b.code) : a = b := by
  revert h; cases a <;> cases b <;> decide

section
variable {m i : Nat} (he : settingExists m i = true) (v : Int) (st : Settings)
include he

/-- A strain channel's setting reads as before behind a write of another setting (R135). -/
theorem strain_written {n : Nat} (hn : 39 ≤ n ∧ n ≤ 50) {j : Fin 32} (h : ¬(m = n ∧ i = j.val)) :
    readStrainSetting n (writeSetting m i v st).strain[j] = readStrainSetting n st.strain[j] := by
  have exists_n : settingExists n j = true := by
    obtain ⟨_, _⟩ := hn
    interval_cases n <;> simp [settingExists, settingRange]
  have read := readSetting_writeSetting exists_n he v st
  rwa [readSetting_strain hn j.isLt, readSetting_strain hn j.isLt, if_neg fun k => h ⟨k.1.symm, k.2.symm⟩] at read

theorem enable_written {j : Fin 32} (h : ¬(m = 39 ∧ i = j.val)) :
    (writeSetting m i v st).strain[j].enable = st.strain[j].enable :=
  boolCode_injective (strain_written he v st (n := 39) (by decide) h)

theorem action_written {j : Fin 32} (h : ¬(m = 48 ∧ i = j.val)) :
    (writeSetting m i v st).strain[j].action = st.strain[j].action :=
  actionCode_injective (strain_written he v st (n := 48) (by decide) h)

theorem faultStops_written {j : Fin 32} (h : ¬(m = 49 ∧ i = j.val)) :
    (writeSetting m i v st).strain[j].faultStops = st.strain[j].faultStops :=
  boolCode_injective (strain_written he v st (n := 49) (by decide) h)

theorem mask_written {j : Fin 8} (h : ¬(m = 63 ∧ i = j.val)) :
    (writeSetting m i v st).crack[j].mask = st.crack[j].mask := by
  have read := readSetting_writeSetting (n := 63) (j := j) (by simp [settingExists, settingRange]) he v st
  rw [readSetting_crack (by decide) j.isLt, readSetting_crack (by decide) j.isLt,
    if_neg fun k => h ⟨k.1.symm, k.2.symm⟩] at read
  exact boolCode_injective read

end

/-- The settings written, as far as the clauses left out allow. -/
theorem settings_keptBut {b : List Clause} {st : Settings} {s : State}
    (ranges : .settings ∉ b → Ranged s.settings → Ranged st)
    (strain : ∀ i : Fin 32, .strain i ∉ b → st.strain[i].enable = s.settings.strain[i].enable ∧
      st.strain[i].faultStops = s.settings.strain[i].faultStops)
    (crack : ∀ i : Fin 8, .crack i ∉ b → st.crack[i].mask = s.settings.crack[i].mask)
    (derate : .derate ∉ b → ∀ i : Fin 32, st.strain[i].enable = s.settings.strain[i].enable ∧
      st.strain[i].action = s.settings.strain[i].action) : KeptBut b s { s with settings := st } := by
  intro l hl hs
  cases l with
  | settings =>
    obtain ⟨ranged, zeros⟩ := (settingsLaw_iff s).mp hs
    exact (settingsLaw_iff _).mpr ⟨ranges hl ranged, zeros⟩
  | strain i =>
    obtain ⟨enable, faultStops⟩ := strain i hl
    exact ⟨hs.1.trans (strainCondition_congr enable faultStops rfl).symm, hs.2⟩
  | crack i => exact ⟨hs.1.trans (crackCondition_congr (crack i hl) rfl).symm, hs.2⟩
  | derate =>
    obtain same := derate hl
    exact hs.trans (derateCondition_congr (fun i => (same i).1) (fun i => (same i).2) fun _ => rfl).symm

/-- A setting written, as far as the clauses left out allow (R135, R142, R143, R182). -/
theorem writeSetting_keptBut {b : List Clause} {m i : Nat} {v : Int} {s : State}
    (ha : settingAllowed m i v s.settings = true)
    (strain : ∀ j : Fin 32, .strain j ∉ b → ¬(m = 39 ∧ i = j.val) ∧ ¬(m = 49 ∧ i = j.val))
    (crack : ∀ j : Fin 8, .crack j ∉ b → ¬(m = 63 ∧ i = j.val))
    (derate : .derate ∉ b → m ≠ 39 ∧ m ≠ 48) :
    KeptBut b s { s with settings := writeSetting m i v s.settings } := by
  obtain ⟨he, hv⟩ := settingAllowed_range ha
  exact settings_keptBut (fun _ ranged => ranged.written he hv)
    (fun j hj => ⟨enable_written he v _ (strain j hj).1, faultStops_written he v _ (strain j hj).2⟩)
    (fun j hj => mask_written he v _ (crack j hj))
    (fun hd j => ⟨enable_written he v _ fun k => (derate hd).1 k.1, action_written he v _ fun k => (derate hd).2 k.1⟩)

/-! ### The strain unit -/

theorem pushNotice_keeps_all (n : Notice) (s : State) : Kept s (pushNotice n s) := .aside rfl

theorem pushNotices_keeps_all (ns : List Notice) (s : State) : Kept s (pushNotices ns s) :=
  foldl_keeps (fun s n => pushNotice_keeps_all n s) ns s

/-- A strain channel written in its present band (R134). -/
theorem setStrainChannel_keeps {i : Fin 32} {c : StrainChannel} {s : State}
    (band : c.band = s.strain.channels[i].band)
    (zeroing : ZeroingFits s.strain.channels[i].zeroing → ZeroingFits c.zeroing) :
    Kept s (setStrainChannel i c s) := by
  refine .strainUnit (fun j => ?_) (fun j hj => ?_) rfl
  · rw [show (s.strain.channels.set i c)[j] = _ from setStrainChannel_getElem i c s j]
    split
    next h => rw [band, h]
    · rfl
  · rw [show (s.strain.channels.set i c)[j] = _ from setStrainChannel_getElem i c s j]
    split
    next h => exact zeroing (h ▸ hj)
    · exact hj

theorem zeroingFits_none : ZeroingFits none := fun _ h => by cases h

theorem setDriftRecord_keeps (i : Fin 32) (r : DriftRecord) (s : State) : Kept s (setDriftRecord i r s) :=
  .driftUnit rfl rfl

theorem evalDrift_keeps (s : State) : Kept s (evalDrift s) := report_keeps_all .drift trivial _ s

theorem abandonZeroing_keeps (i : Fin 32) (why : AbandonReason) (s : State) : Kept s (abandonZeroing i why s) := by
  unfold abandonZeroing
  split
  · exact .refl _ s
  · have emptied : Kept s (setStrainChannel i { s.strain.channels[i] with zeroing := none } s) :=
      setStrainChannel_keeps rfl fun _ => zeroingFits_none
    exact emptied.trans (pushNotice_keeps_all _ _)

theorem feedDrift_keeps (i : Fin 32) (v : Int) (s : State) : Kept s (feedDrift i v s) := by
  unfold feedDrift
  split
  · exact setDriftRecord_keeps _ _ s
  · exact .refl _ s

/-- The mean of 64 valid samples is one of the zero offset's values (R147, R201). -/
theorem zeroOffset_inRange {z : Zeroing} {r : Int} (hz : ZeroingFits (some z)) (hr : r.natAbs ≤ 8388607) :
    inSettingRange 42 (roundDiv (z.sum + r) 64) = true := by
  obtain ⟨count, sum⟩ := hz z rfl
  have bound : (z.sum + r).natAbs ≤ 64 * 8388607 := by omega
  have mean : -8388607 ≤ roundDiv (z.sum + r) 64 ∧ roundDiv (z.sum + r) 64 ≤ 8388607 := by
    unfold roundDiv
    split <;> omega
  simp [inSettingRange, settingRange, within, mean]

/-- A zeroing fed keeps its sum a sum of valid samples, and writes their mean at its end (R147). -/
theorem feedZeroing_keeps (i : Fin 32) {r : Int} (hr : r.natAbs ≤ 8388607) (s : State) :
    Kept s (feedZeroing i r s) := by
  unfold feedZeroing
  split
  · exact .refl _ s
  next z hz =>
    split
    next more =>
      refine setStrainChannel_keeps rfl fun fits => ?_
      rw [hz] at fits
      obtain ⟨count, sum⟩ := fits z rfl
      rintro _ ⟨⟩
      simp only [Config.zeroingSamples] at more
      have bound : (z.sum + r).natAbs ≤ (z.count + 1) * 8388607 := by omega
      exact ⟨Nat.le_of_lt_succ more, bound⟩
    · refine KeptBut.trans ?_ (pushNotice_keeps_all _ _)
      have written : ∀ st : Settings, ∀ w, { st with strain := st.strain.set i { st.strain[i] with zeroOffset := w } } =
          writeSetting 42 i w st := fun st w => by rw [writeSetting_strain (by decide) rfl]; rfl
      have exists_offset : settingExists 42 i = true := by simp [settingExists, settingRange]
      have ended : Kept s (setStrainChannel i
          { s.strain.channels[i] with zeroing := none, aboveCount := 0, belowCount := 0 } s) :=
        setStrainChannel_keeps rfl fun _ => zeroingFits_none
      simp only [written]
      refine KeptBut.settle (l := .settings) (KeptBut.trans (fun l _ => ended l List.not_mem_nil) ?_) fun hs => ?_
      · exact settings_keptBut (fun h => absurd (by simp) h)
          (fun j _ => ⟨enable_written exists_offset _ _ (by simp), faultStops_written exists_offset _ _ (by simp)⟩)
          (fun j _ => mask_written exists_offset _ _ (by simp))
          fun _ j => ⟨enable_written exists_offset _ _ (by simp), action_written exists_offset _ _ (by simp)⟩
      · obtain ⟨ranged, zeros⟩ := (settingsLaw_iff s).mp hs
        obtain ⟨-, zeros'⟩ := (settingsLaw_iff _).mp (ended .settings List.not_mem_nil hs)
        exact (settingsLaw_iff _).mpr
          ⟨ranged.written exists_offset (zeroOffset_inRange (hz ▸ zeros i) hr), zeros'⟩

theorem sampleValue_bound {v : BitVec 24} {r : Int} (h : sampleValue v = some r) : r.natAbs ≤ 8388607 := by
  unfold sampleValue at h
  split at h
  · cases h
  next valid =>
    cases h
    have low := BitVec.le_toInt v
    have high := BitVec.toInt_lt (x := v)
    simp only [Config.faultCode] at valid
    omega

/-- A strain sample keeps every clause: its evaluations make good what the band's move disturbs (R137, R139). -/
theorem takeStrainSample_keeps (i : Fin 32) (v : BitVec 24) (s : State) : Kept s (takeStrainSample i v s) := by
  unfold takeStrainSample
  split
  · split
    · have faulted := setStrainChannel_keptBut (i := i)
        (c := { s.strain.channels[i] with band := .fault, aboveCount := 0, belowCount := 0 }) (s := s) id
      refine ((faulted.followed (abandonZeroing_keeps i .fault _)).evalStrain ?_).evalDerate
      unfold abandonZeroing
      split <;> rfl
    next r hr =>
      have banded := setStrainChannel_keptBut (i := i)
        (c := strainRecord s.settings.strain[i] r s.strain.channels[i]) (s := s) id
      exact ((banded.evalStrain rfl).evalDerate.trans (feedZeroing_keeps i (sampleValue_bound hr) _)).trans
        (feedDrift_keeps i _ _)
  · exact .refl _ s

theorem cycleBegin_keeps (seq : BitVec 16) (watch : Bool) (s : State) : Kept s (cycleBegin seq watch s) := by
  unfold cycleBegin
  split
  · exact KeptBut.trans (.driftUnit (by rfl) (by rfl)) (evalDrift_keeps _)
  · exact .driftUnit rfl rfl

theorem cycleClose_keeps (close : CycleClose) (watch : Bool) (s : State) : Kept s (cycleClose close watch s) := by
  unfold cycleClose
  split
  · exact (KeptBut.trans (.driftUnit (by rfl) (by rfl)) (pushNotices_keeps_all _ _)).trans (evalDrift_keeps _)
  · exact .refl _ s

/-! ### The crack unit -/

theorem setDetector_keeps (i : Fin 8) (d : Detector) (s : State) : Kept s (setDetector i d s) :=
  setCrackChannel_kept rfl

theorem storeHit_eq (i : Fin 8) (h : Hit) (felicity truncated : Bool) (s : State) :
    ∃ fifo gap notices, storeHit i h felicity truncated s =
      { s with crack := { s.crack with fifo := fifo, gap := gap }, link := { s.link with notices := notices } } := by
  unfold storeHit
  split
  · simp only
    split
    · exact ⟨_, _, _, rfl⟩
    · exact ⟨_, _, _, rfl⟩
  · exact ⟨_, _, _, rfl⟩

/-- A hit that ends may trip its channel's alarm latch, and the CRACK condition is evaluated behind it (R174, R182). -/
theorem finishHit_keeps (i : Fin 8) (h : Hit) (truncated : Bool) (s : State) : Kept s (finishHit i h truncated s) := by
  unfold finishHit
  extract_lets felicity before counted stored ks tripped
  obtain ⟨fifo, gap, notices, same⟩ := storeHit_eq i h felicity truncated (setCrackChannel i counted s)
  have disturbed : KeptBut [.crack i] s tripped := by
    have counting : KeptBut [.crack i] s stored := by
      refine (setCrackChannel_keptBut i counted s).trans fun l _ hs => ?_
      rw [show stored = _ from same]
      cases l <;> exact hs
    exact counting.trans (setCrackChannel_keptBut i _ stored)
  refine (disturbed.followed (pushNotices_keeps_all _ _)).evalCrack fun stands _ => ?_
  have entry : tripped.entry (.crack i) = s.entry (.crack i) := by
    show stored.entry (.crack i) = _
    rw [show stored = _ from same]
    rfl
  rw [Armed, pushNotices_entry, entry]
  exact stands.2

theorem faultSensor_keeps (i : Fin 8) (s : State) : Kept s (faultSensor i s) := by
  unfold faultSensor
  split
  · exact .refl _ s
  · exact .refl _ s
  all_goals exact (setDetector_keeps i _ s).trans (pushNotice_keeps_all _ _)

theorem takeEnvelope_keeps (i : Fin 8) (v : Byte) (s : State) : Kept s (takeEnvelope i v s) := by
  unfold takeEnvelope
  split
  · split
    · exact faultSensor_keeps i s
    · split
      · exact .refl _ s
      · split
        · exact setDetector_keeps i _ s
        · exact .refl _ s
      · unfold stepHit
        simp only
        split
        · exact setDetector_keeps i _ s
        · exact (setDetector_keeps i _ s).trans (finishHit_keeps i _ _ _)
      · exact setDetector_keeps i _ s
      · exact .refl _ s
  · exact .refl _ s

theorem windowChannel_keeps_all (i : Fin 8) (s : State) : Kept s (windowChannel i s) :=
  (setCrackChannel_keptBut i _ s).evalCrack fun stands _ => stands.2

theorem closeRateWindow_keeps (s : State) : Kept s (closeRateWindow s) :=
  foldl_keeps (fun s i => windowChannel_keeps_all i s) _ s

end Sys2Proof.Survey

/-! ## Every step keeps the clauses -/

namespace Sys2Proof.Survey

open Sys2Proof Sys2Proof.Machine Sys2Proof.Laws Sys2Proof.Safety Sys2Proof.Claims Sys2Proof.Postures
open Sys2Proof.LoadProgram Sys2Proof.PeerTable

/-! ### The posture controller's work, and the peers and the hall line -/

theorem takeIntoFlight_keeps_all (s : State) : Kept s (takeIntoFlight s) := .of_keeps (takeIntoFlight_keeps s) (by simp)

theorem starvedTest_keeps_all (s : State) : Kept s (starvedTest s) := .of_keeps (starvedTest_keeps s) (by simp)

theorem enterRun_keeps_all (k : Option Cause) (s : State) : Kept s (enterRun k s) :=
  .of_keeps (enterRun_keeps k s) (by simp)

theorem holdExit_keeps_all (k : Option Cause) (s : State) : Kept s (holdExit k s) :=
  .of_keeps (holdExit_keeps k s) (by simp)

theorem evalPeers_keeps (s : State) : Kept s (evalPeers s) :=
  ((report_keeps_all .peerHold trivial _ s).trans (report_keeps_all .peerUnload trivial _ _)).trans
    (report_keeps_all .peerLost trivial _ _)

/-- Work on the entries of the peer table, with its notices and the conditions behind it (R108). -/
theorem peersWork_keeps (es : List Peer) (ns : List Notice) (s : State) :
    Kept s (evalPeers (pushNotices ns (setPeers es s))) :=
  (KeptBut.behind (pushNotices_keeps_all ns _) (by rfl)).trans (evalPeers_keeps _)

theorem removePeers_keeps (why : ForgetReason) (gone : Peer → Bool) (s : State) : Kept s (removePeers why gone s) :=
  peersWork_keeps _ _ s

theorem evalPacing_keeps (s : State) : Kept s (evalPacing s) := by
  unfold evalPacing
  split
  · exact .aside rfl
  · exact .refl _ s

theorem pacingAfterReport_keeps (g : Nat) (s : State) : Kept s (pacingAfterReport g s) := by
  unfold pacingAfterReport
  split
  · exact evalPacing_keeps s
  · exact .refl _ s

theorem takeNewcomer_keeps (id : Nat) (r : ReportFields) (s : State) : Kept s (takeNewcomer id r s) := by
  unfold takeNewcomer
  split
  · exact (peersWork_keeps _ [_] s).trans (pacingAfterReport_keeps _ _)
  · simp only
    split <;> exact .aside rfl

theorem takeKnownReport_keeps (e : Peer) (r : ReportFields) (s : State) : Kept s (takeKnownReport e r s) := by
  unfold takeKnownReport
  split
  · exact .aside rfl
  · exact (peersWork_keeps _ _ s).trans (pacingAfterReport_keeps _ _)

theorem takePeerFrame_keeps (f : Frame) (s : State) : Kept s (takePeerFrame f s) := by
  unfold takePeerFrame
  split
  · exact takeKnownReport_keeps _ _ s
  · split
    · exact takeNewcomer_keeps _ _ s
    · exact .refl _ s
  · split
    · exact peersWork_keeps _ _ s
    · exact .refl _ s
  · split
    · exact peersWork_keeps _ _ s
    · exact .refl _ s
  · exact .refl _ s
  · exact .refl _ s

theorem takeFrame_keeps (bytes : List Byte) (s : State) : Kept s (takeFrame bytes s) := by
  unfold takeFrame
  split
  · exact .aside rfl
  · exact .aside rfl
  · split
    · exact pulse_keeps_all .idClash trivial s
    · exact takePeerFrame_keeps _ s

theorem takeChars_keeps (chars : List Byte) (stop : StopBit) (s : State) : Kept s (takeChars chars stop s) := by
  unfold takeChars
  split
  · exact .aside rfl
  · split
    · exact .aside rfl
    · split
      · split
        · exact takeFrame_keeps _ s
        · exact .aside rfl
      · exact .aside rfl

theorem receiveChars_keeps (chars : List Byte) (stop : StopBit) (noisy : Bool) (s : State) :
    Kept s (receiveChars chars stop noisy s) := by
  unfold receiveChars
  split
  · exact .refl _ s
  · simp only
    split
    · exact .aside rfl
    · exact KeptBut.behind (takeChars_keeps chars stop _) rfl

theorem recogniseBreak_keeps (s : State) : Kept s (recogniseBreak s) := by
  unfold recogniseBreak
  split
  · exact .refl _ s
  · exact KeptBut.behind (pulse_keeps_all .hallBreak trivial _) rfl

/-- Work that changes the line alone. -/
theorem KeptBut.lineAlone {s t : State} (h : t = { s with line := t.line }) : Kept s t := by
  rw [h]; exact .aside rfl

theorem startAttempt_keeps (s : State) : Kept s (startAttempt s) := .lineAlone (by unfold startAttempt; split <;> rfl)

theorem finishAttempt_keeps (s : State) : Kept s (finishAttempt s) :=
  .lineAlone (by unfold finishAttempt; split <;> rfl)

theorem endBackoff_keeps (s : State) : Kept s (endBackoff s) := .lineAlone (by unfold endBackoff; split <;> rfl)

theorem endBreak_keeps (s : State) : Kept s (endBreak s) := by
  refine .lineAlone ?_
  unfold endBreak
  split
  · split <;> rfl
  · rfl

theorem resumeHunt_keeps (s : State) : Kept s (resumeHunt s) := by
  refine .lineAlone ?_
  unfold resumeHunt
  split
  · rfl
  · split <;> rfl

theorem falseStarted_keeps (noisy : Bool) (s : State) : Kept s (falseStarted noisy s) := by
  refine .lineAlone ?_
  unfold falseStarted
  split
  · rfl
  · split <;> rfl

theorem markReturned_keeps (s : State) : Kept s (markReturned s) := .lineAlone (by unfold markReturned; split <;> rfl)

/-! ### The program unit and the servo loop -/

theorem completeSegment_keeps (seg : Segment) (s : State) : Kept s (completeSegment seg s) := by
  have next : Kept s (takeIntoFlight (pushNotice (.segmentDone seg.seq seg.body.kind false) (retireHead seg s))) :=
    KeptBut.behind (takeIntoFlight_keeps_all _) rfl
  unfold completeSegment
  simp only
  split
  · exact (next.trans (pulse_keeps_all .inspect trivial _)).trans (starvedTest_keeps_all _)
  · exact next.trans (starvedTest_keeps_all _)

theorem skipSegment_keeps (seg : Segment) (s : State) : Kept s (skipSegment seg s) :=
  (KeptBut.behind (pulse_keeps_all .program trivial _) (by rfl)).trans (takeIntoFlight_keeps_all _)

theorem closeCycle_keeps (seg : Segment) (mean : Int) (count done : Nat) (watch interrupted : Bool) (s : State) :
    Kept s (closeCycle seg mean count done watch interrupted s) := by
  have closed : Kept s (cycleClose ⟨seg.seq, done + 1, interrupted⟩ watch
      (setFlight (.cycle true 0 (done + 1) false) (setSetpoint (mean * 256) s))) :=
    KeptBut.behind (cycleClose_keeps _ _ _) rfl
  unfold closeCycle
  simp only
  split
  · exact closed.trans (completeSegment_keeps _ _)
  · exact closed

theorem stepSegment_keeps (seg : Segment) (g : Generator) (s : State) : Kept s (stepSegment seg g s) := by
  unfold stepSegment
  split
  · unfold stepRamp
    simp only
    split
    · exact KeptBut.behind (completeSegment_keeps _ _) rfl
    · exact .aside rfl
  · unfold stepDwell
    simp only
    split
    · exact KeptBut.behind (completeSegment_keeps _ _) rfl
    · exact .aside rfl
  · unfold beginCycle
    split
    · exact skipSegment_keeps _ s
    · exact KeptBut.behind (cycleBegin_keeps _ _ _) rfl
  · unfold stepCycle
    split
    · exact .aside rfl
    · simp only
      split
      · exact KeptBut.behind (closeCycle_keeps _ _ _ _ _ _ _) rfl
      · exact .aside rfl
  · exact .refl _ s

theorem programExpiry_keeps (s : State) : Kept s (programExpiry s) := by
  unfold programExpiry
  simp only
  split
  · split
    · exact KeptBut.behind (stepSegment_keeps _ _ _) rfl
    · exact .aside rfl
  · exact .aside rfl

theorem takeLoad_keeps (v : BitVec 24) (s : State) : Kept s (takeLoad v s) := by
  unfold takeLoad
  split
  · exact .refl _ s
  · exact KeptBut.behind (report_keeps_all .loadStale trivial _ _) rfl

theorem takeDisplacement_keeps (v : BitVec 24) (s : State) : Kept s (takeDisplacement v s) := by
  unfold takeDisplacement
  split
  · exact .refl _ s
  · exact KeptBut.behind (report_keeps_all .stroke trivial _ _) rfl

theorem loopStage_keeps (s : State) : Kept s (loopStage s) :=
  (KeptBut.behind (report_keeps_all .following trivial _ _) (by rfl)).trans (report_keeps_all .valveSat trivial _ _)

/-- An unload's end lowers the conditions of FOLLOWING and VALVE_SAT alone (R65). -/
theorem endUnload_keeps_all (k : Option Cause) (o : UnloadOutcome) (s : State) : Kept s (endUnload k o s) := by
  have keeps := endUnload_keeps k o s
  refine keptBut_of_same keeps.settings keeps.strain keeps.crack fun l _ d hd => ?_
  obtain ⟨following, valveSat⟩ := Clause.cause_plain hd
  rw [endUnload_entry, if_neg (by simp [following, valveSat])]

theorem settleStage_keeps (s : State) : Kept s (settleStage s) := by
  unfold settleStage
  split
  · exact .refl _ s
  · split
    · exact .aside rfl
    · exact KeptBut.behind (endUnload_keeps_all _ _ _) rfl

theorem controlPeriod_keeps (s : State) : Kept s (controlPeriod s) := by
  have before : Kept s (beforeLoop s) :=
    (KeptBut.behind (report_keeps_all .loadStale trivial _ _) (by rfl)).trans (programExpiry_keeps _)
  have looped : Kept s (loopToStage8 (beforeLoop s)).1 := by
    refine (before.trans (KeptBut.trans ?_ (loopStage_keeps _)))
    unfold targetStage
    split <;> exact .aside rfl
  unfold controlPeriod
  simp only
  split
  · exact before.trans (.aside rfl)
  · split
    · exact looped.trans (settleStage_keeps _)
    · exact looped

/-! ### SET (R188) -/

theorem withIndex_keeps {n : Nat} {f : Fin n → State → State} (h : ∀ i s, Kept s (f i s)) (index : Nat) (s : State) :
    Kept s (withIndex n index f s) := by
  unfold withIndex
  split
  · exact h _ s
  · exact .refl _ s

/-- A pending ack dropped leaves condition and latch (R4). -/
theorem dropAck_keeps (c : Cause) (s : State) : Kept s (dropAck c s) := by
  have condition : ∀ d, ((dropAck c s).entry d).condition = (s.entry d).condition := fun d => by
    rw [dropAck, entry_setEntry]; split
    next h => rw [h]
    · rfl
  have latched : ∀ d, ((dropAck c s).entry d).latched = (s.entry d).latched := fun d => by
    rw [dropAck, entry_setEntry]; split
    next h => rw [h]
    · rfl
  intro l _ hs
  cases l with
  | strain i => exact ⟨(condition _).trans hs.1, by rw [condition, latched]; exact hs.2⟩
  | crack i => exact ⟨(condition _).trans hs.1, by rw [condition, latched]; exact hs.2⟩
  | _ => exact hs

theorem crackModeChanged_keeps (i : Fin 8) (s : State) : Kept s (crackModeChanged i s) := by
  unfold crackModeChanged
  split
  · exact (dropAck_keeps (.crack i) s).trans (setCrackChannel_kept rfl)
  · exact .refl _ s

theorem lineModeChanged_keeps (i : Fin 4) (s : State) : Kept s (lineModeChanged i s) := by
  unfold lineModeChanged
  split
  · exact dropAck_keeps _ s
  · exact .refl _ s

theorem driftWatchChanged_keeps (i : Fin 32) (s : State) : Kept s (driftWatchChanged i s) := by
  unfold driftWatchChanged
  split
  · exact (setDriftRecord_keeps i _ s).trans (evalDrift_keeps _)
  · exact evalDrift_keeps s

/-- The settings whose change moves no condition of a strain or crack channel bring no work on one. -/
theorem settingChanged_keeps {number : Nat} (h39 : number ≠ 39) (h48 : number ≠ 48) (h49 : number ≠ 49)
    (h63 : number ≠ 63) (index : Nat) (s : State) : Kept s (settingChanged number index s) := by
  unfold settingChanged
  split
  · exact KeptBut.behind (removePeers_keeps _ _ _) rfl
  · exact removePeers_keeps _ _ s
  · exact .aside rfl
  · exact .aside rfl
  · exact .aside rfl
  · exact report_keeps_all .stroke trivial _ s
  · exact report_keeps_all .stroke trivial _ s
  · exact report_keeps_all .loadStale trivial _ s
  · exact withIndex_keeps (fun i s => report_keeps_all (.interlock i) trivial _ s) index s
  · exact withIndex_keeps lineModeChanged_keeps index s
  · exact absurd rfl h39
  · exact absurd rfl h48
  · exact absurd rfl h49
  · exact withIndex_keeps driftWatchChanged_keeps index s
  · exact evalDrift_keeps s
  · exact withIndex_keeps (fun i s => setDetector_keeps i _ s) index s
  · exact absurd rfl h63
  · exact withIndex_keeps crackModeChanged_keeps index s
  · exact .refl _ s

/-- A channel turned on or off moves its band, and no more that the clauses rest on (R136, R148). -/
theorem strainTurned_keptBut (i : Fin 32) (s : State) : KeptBut [.strain i, .derate] s (strainTurned i s) := by
  have channel : ∀ c : StrainChannel, c.zeroing = s.strain.channels[i].zeroing →
      KeptBut [.strain i, .derate] s (setStrainChannel i c s) := fun c h => setStrainChannel_keptBut (h ▸ id)
  unfold strainTurned
  split
  · unfold strainEnabled
    simp only
    split
    · exact KeptBut.followed (channel _ (by rfl)) (setDriftRecord_keeps i _ _)
    · exact channel _ rfl
  · exact KeptBut.followed (channel _ (by rfl)) (abandonZeroing_keeps i .disabled _)

/-- An accepted SET keeps every clause: the settings that a STRAIN, a CRACK or the derate demand rests on are evaluated
behind their change (R136, R142, R143, R182). -/
theorem applySetting_keeps {number index : Nat} {v : Int} {s : State}
    (ha : settingAllowed number index v s.settings = true) : Kept s (applySetting number index v s) := by
  have bound := settingExists_cases (settingAllowed_range ha).1
  unfold applySetting
  split
  · exact .refl _ s
  by_cases h39 : number = 39
  · subst h39
    obtain ⟨i, rfl⟩ : ∃ i : Fin 32, index = i.val := ⟨⟨index, by omega⟩, rfl⟩
    have written : KeptBut [.strain i, .derate] s { s with settings := writeSetting 39 i v s.settings } :=
      writeSetting_keptBut ha (fun j hj => ⟨fun k => hj (by simp [Fin.ext k.2]), by simp⟩) (by simp) (by simp)
    rw [show settingChanged 39 i.val = withIndex 32 i.val strainEnableChanged from rfl, withIndex_eq rfl]
    refine KeptBut.trans ((written.trans (strainTurned_keptBut i _)).evalStrain ?_).evalDerate (evalDrift_keeps _)
    rw [strainTurned_eq]; rfl
  by_cases h48 : number = 48
  · subst h48
    have written : KeptBut [.derate] s { s with settings := writeSetting 48 index v s.settings } :=
      writeSetting_keptBut ha (by simp) (by simp) (by simp)
    exact written.evalDerate
  by_cases h49 : number = 49
  · subst h49
    obtain ⟨i, rfl⟩ : ∃ i : Fin 32, index = i.val := ⟨⟨index, by omega⟩, rfl⟩
    have written : KeptBut [.strain i] s { s with settings := writeSetting 49 i v s.settings } :=
      writeSetting_keptBut ha (fun j hj => ⟨by simp, fun k => hj (by simp [Fin.ext k.2])⟩) (by simp) (by simp)
    rw [show settingChanged 49 i.val = withIndex 32 i.val evalStrain from rfl, withIndex_eq rfl]
    exact written.evalStrain rfl
  by_cases h63 : number = 63
  · subst h63
    obtain ⟨i, rfl⟩ : ∃ i : Fin 8, index = i.val := ⟨⟨index, by omega⟩, rfl⟩
    have written : KeptBut [.crack i] s { s with settings := writeSetting 63 i v s.settings } :=
      writeSetting_keptBut ha (by simp) (fun j hj k => hj (by simp [Fin.ext k.2])) (by simp)
    rw [show settingChanged 63 i.val = withIndex 8 i.val (evalCrack true) from rfl, withIndex_eq rfl]
    exact written.evalCrack fun stands _ => stands.2
  · exact (writeSetting_keptBut ha (by simp [h39, h49]) (by simp [h63]) (by simp [h39, h48])).trans
      (settingChanged_keeps h39 h48 h49 h63 _ _)

/-! ### Commands -/

theorem cmdSet_keeps (number index : Nat) (v : Int) (s : State) : Kept s (cmdSet number index v s).1 := by
  unfold cmdSet
  split
  · exact .refl _ s
  · split
    · exact .refl _ s
    next ha => exact applySetting_keeps (by simpa using ha)

theorem cmdGet_keeps (number index : Nat) (s : State) : Kept s (cmdGet number index s).1 := by
  unfold cmdGet; split <;> exact .refl _ s

theorem cmdStart_keeps (s : State) : Kept s (cmdStart s).1 := by
  unfold cmdStart
  split
  · exact .refl _ s
  · split
    · exact .refl _ s
    · show Kept s (startStation s)
      unfold startStation
      split
      · exact KeptBut.behind (.of_keeps (startHeld_keeps (prepareStart s)) (by simp)) rfl
      · exact KeptBut.behind (enterRun_keeps_all none _) rfl

theorem cmdHold_keeps (s : State) : Kept s (cmdHold s).1 := by
  unfold cmdHold
  split
  · exact pulse_keeps_all .holdCmd trivial s
  · exact pulse_keeps_all .holdCmd trivial s
  all_goals exact .refl _ s

theorem cmdUnload_keeps (s : State) : Kept s (cmdUnload s).1 := by
  unfold cmdUnload
  split
  · exact pulse_keeps_all .unloadCmd trivial s
  · exact pulse_keeps_all .unloadCmd trivial s
  · exact pulse_keeps_all .unloadCmd trivial s
  all_goals exact .refl _ s

theorem cmdResume_keeps (s : State) : Kept s (cmdResume s).1 := by
  unfold cmdResume
  split
  · exact .refl _ s
  · split
    · exact .refl _ s
    · exact enterRun_keeps_all none s

theorem cmdClear_keeps (s : State) : Kept s (cmdClear s).1 := by
  have cleared : Kept s (clearStation s) :=
    .aside (by simp only [grounds, clearStation_settings, clearStation_strain, clearStation_crack, clearStation_causes])
  unfold cmdClear
  split
  · exact .refl _ s
  · exact .refl _ s
  · exact .refl _ s
  · exact cleared
  · split
    · exact .refl _ s
    · exact cleared

theorem cmdAppend_keeps (seg : SegReq) (inspect : Bool) (s : State) : Kept s (cmdAppend seg inspect s).1 := by
  unfold cmdAppend
  split
  · exact .refl _ s
  · split
    · exact .refl _ s
    · split
      · exact .refl _ s
      · exact KeptBut.behind (takeIntoFlight_keeps_all _) rfl

theorem flushQueue_keeps (s : State) : Kept s (flushQueue s) :=
  KeptBut.behind (starvedTest_keeps_all _) rfl

theorem cmdAck_keeps (kind index : Nat) (s : State) : Kept s (cmdAck kind index s).1 := by
  unfold cmdAck
  split
  · exact acknowledge_keeps true _ s
  · exact .refl _ s

theorem acknowledgeAll_keeps (s : State) : Kept s (acknowledgeAll s) :=
  (foldl_keeps (fun s c => acknowledge_keeps false c s) Cause.all s).trans (holdExit_keeps_all none _)

/-- A zeroing starts with no sample summed (R146). -/
theorem startZeroing_keeps (mask : BitVec 32) (s : State) : Kept s (startZeroing mask s) := by
  refine .strainUnit (fun i => ?_) (fun i fits => ?_) rfl
  · simp only [Fin.getElem_fin, getElem_tabulate]
    split <;> rfl
  · simp only [Fin.getElem_fin, getElem_tabulate]
    split
    · rintro _ ⟨⟩; exact ⟨Nat.zero_le _, Nat.le_refl 0⟩
    · exact fits

theorem clearExtremes_keeps (s : State) : Kept s (clearExtremes s) := by
  refine .strainUnit (fun i => ?_) (fun i fits => ?_) rfl
  · simp only [Fin.getElem_fin, getElem_tabulate]
  · simpa only [Fin.getElem_fin, getElem_tabulate] using fits

theorem cmdZero_keeps (mask : BitVec 32) (s : State) : Kept s (cmdZero mask s).1 := by
  unfold cmdZero
  split
  · exact startZeroing_keeps mask s
  · exact startZeroing_keeps mask s
  all_goals exact .refl _ s

theorem cmdClearPeak_keeps (s : State) : Kept s (cmdClearPeak s).1 := by
  unfold cmdClearPeak
  split
  · exact .aside rfl
  · exact .aside rfl
  all_goals exact .refl _ s

theorem cmdForget_keeps (id : Nat) (s : State) : Kept s (cmdForget id s).1 := by
  unfold cmdForget
  split
  · exact .refl _ s
  · show Kept s (forgetPeer id s)
    unfold forgetPeer
    split
    · exact removePeers_keeps _ _ s
    · exact .refl _ s

theorem dropHits_keeps (s : State) : Kept s (dropHits s) := by
  intro l _ hs
  cases l <;> exact hs

/-- The state after reset meets each clause (R197). -/
theorem resetStation_keeps (s : State) : Kept s (resetStation s) := by
  have strain : strainLaw State.reset := by decide
  have crack : crackLaw State.reset := by decide
  have settings : settingsLaw State.reset := by decide
  intro l _ _
  cases l with
  | settings => exact settings
  | strain i => exact strain i
  | crack i => exact crack i
  | derate => exact (by decide : derateLaw State.reset)

end Sys2Proof.Survey

/-! ## The step -/

namespace Sys2Proof.Survey

open Sys2Proof Sys2Proof.Machine Sys2Proof.Laws Sys2Proof.Safety Sys2Proof.Claims Sys2Proof.Postures
open Sys2Proof.LoadProgram Sys2Proof.PeerTable

theorem cmdAckAll_keeps (s : State) : Kept s (cmdAckAll s).1 := by
  simp only [cmdAckAll, accept]; exact acknowledgeAll_keeps s

/-- Every command of the station link keeps every clause. -/
theorem commandBody_keeps (c : Instr) (s : State) : Kept s (commandBody c s).1 := by
  cases c with
  | set n i v =>
    rw [show commandBody (.set n i v) = cmdSet n.toNat i.toNat v.toInt from rfl]
    exact cmdSet_keeps _ _ _ s
  | get n i =>
    rw [show commandBody (.get n i) = cmdGet n.toNat i.toNat from rfl]
    exact cmdGet_keeps _ _ s
  | start => exact cmdStart_keeps s
  | hold => exact cmdHold_keeps s
  | resume => exact cmdResume_keeps s
  | unload => exact cmdUnload_keeps s
  | clear => exact cmdClear_keeps s
  | append seg inspect => exact cmdAppend_keeps seg inspect s
  | flush => exact flushQueue_keeps s
  | ack k i =>
    rw [show commandBody (.ack k i) = cmdAck k.toNat i.toNat from rfl]
    exact cmdAck_keeps _ _ s
  | ackAll => rw [show commandBody .ackAll = cmdAckAll from rfl]; exact cmdAckAll_keeps s
  | zero mask => exact cmdZero_keeps mask s
  | clearExtremes => exact clearExtremes_keeps s
  | clearPeak => exact cmdClearPeak_keeps s
  | forget id =>
    rw [show commandBody (.forget id) = cmdForget id.toNat from rfl]
    exact cmdForget_keeps _ s
  | readHits => exact dropHits_keeps s
  | readNotices => exact .aside rfl
  | readLine => exact .aside rfl
  | reset => exact resetStation_keeps s
  | _ => exact .refl _ s

theorem messageBody_keeps (msg : List Byte) (s : State) : Kept s (messageBody msg s).1 := by
  unfold messageBody
  cases parseMessage msg with
  | error code => exact .refl _ s
  | ok c => exact commandBody_keeps c s

theorem clockResponse_keeps (response : List Byte) (n : Nat) (s : State) : Kept s (clockResponse response n s) := by
  unfold clockResponse
  split <;> exact .aside rfl

theorem takeMessage_keeps {body : State → State × Reply} (h : ∀ s, Kept s (body s).1) (msg : List Byte) (s : State) :
    Kept s (takeMessage msg body s) :=
  ((report_keeps_all .hostSilent trivial false s).trans (h _)).trans (.aside rfl)

theorem exchange_keeps {body : State → State × Reply} (h : ∀ s, Kept s (body s).1) (msg : List Byte) (s : State) :
    Kept s (exchange msg body s) := by
  unfold exchange
  split
  · exact clockResponse_keeps _ _ s
  · split
    · exact .aside rfl
    · exact takeMessage_keeps h msg s

theorem readPending_keeps (n : Nat) (s : State) : Kept s (readPending n s) := by
  unfold readPending
  split
  · exact clockResponse_keeps _ _ s
  · exact .refl _ s

theorem stepTrim_keeps (s : State) : Kept s (stepTrim s) := by
  unfold stepTrim
  split
  · exact .aside rfl
  · exact .refl _ s

theorem reportPeriod_keeps (s : State) : Kept s (reportPeriod s) := by
  have lined : Kept s (reportPeriodLine s) := by
    rw [reportPeriodLine_eq]; exact .aside rfl
  have aged : ∀ u, Kept u (agingPass u) := fun u =>
    ((peersWork_keeps _ _ u).trans (stepTrim_keeps _)).trans (evalPacing_keeps _)
  exact lined.trans (aged _)

theorem debounced_keeps (line : Fin 4) (s : State) : Kept s (debounced line s) := by
  unfold debounced
  split
  · exact KeptBut.behind (report_keeps_all (.interlock line) trivial _ _) rfl
  · exact .refl _ s

theorem expireSilence_keeps (s : State) : Kept s (expireSilence s) := by
  unfold expireSilence
  split
  · exact KeptBut.behind (report_keeps_all .hostSilent trivial _ _) rfl
  · exact .refl _ s
  · exact .refl _ s

theorem ite_keeps {b : Bool} {s t : State} (h : Kept s t) : Kept s (if b then t else s) := by
  split
  · exact h
  · exact .refl _ s

/-- Every row of the table keeps every clause. -/
theorem exec_keeps (i : Instr) (s : State) : ∃ t, exec i s = .next t ∧ Kept s t := by
  have sent {c : Instr} {body : State → State × Reply} (he : exec c s = .next (sendCommand c body s))
      (h : ∀ s, Kept s (body s).1) : ∃ t, exec c s = .next t ∧ Kept s t := ⟨_, he, exchange_keeps h _ s⟩
  cases i with
  | powerOnReset => exact ⟨_, rfl, resetStation_keeps s⟩
  | unknownCommand m => exact ⟨_, rfl, exchange_keeps (messageBody_keeps m) m s⟩
  | pendingResponseRead n => exact ⟨_, rfl, readPending_keeps n s⟩
  | controlPeriodExpiry => exact ⟨_, rfl, controlPeriod_keeps s⟩
  | loadStale => exact ⟨_, rfl, ite_keeps (controlPeriod_keeps s)⟩
  | settleTimeExceeded => exact ⟨_, rfl, ite_keeps (controlPeriod_keeps s)⟩
  | reportPeriodExpiry => exact ⟨_, rfl, reportPeriod_keeps s⟩
  | chatterWindowExpiry => exact ⟨_, rfl, .aside rfl⟩
  | rateWindowExpiry => exact ⟨_, rfl, KeptBut.behind (closeRateWindow_keeps _) rfl⟩
  | hostSilenceExpiry => exact ⟨_, rfl, expireSilence_keeps s⟩
  | interlockInputChange l o => exact ⟨_, rfl, .aside rfl⟩
  | debounceExpiry l => exact ⟨_, rfl, debounced_keeps l s⟩
  | loadSample v => exact ⟨_, rfl, takeLoad_keeps v s⟩
  | displacementSample v => exact ⟨_, rfl, takeDisplacement_keeps v s⟩
  | strainSample ch v => exact ⟨_, rfl, takeStrainSample_keeps ch v s⟩
  | envelopeSample ch v => exact ⟨_, rfl, takeEnvelope_keeps ch v s⟩
  | hitEnd ch v => exact ⟨_, rfl, ite_keeps (takeEnvelope_keeps ch v s)⟩
  | lockoutEnd ch v => exact ⟨_, rfl, ite_keeps (takeEnvelope_keeps ch v s)⟩
  | frameReceived cs stop noisy => exact ⟨_, rfl, receiveChars_keeps cs stop noisy s⟩
  | breakRecognised => exact ⟨_, rfl, recogniseBreak_keeps s⟩
  | receiverHuntResume => exact ⟨_, rfl, resumeHunt_keeps s⟩
  | attemptStart => exact ⟨_, rfl, startAttempt_keeps s⟩
  | frameSent => exact ⟨_, rfl, finishAttempt_keeps s⟩
  | contention bit => exact ⟨_, rfl, .lineAlone (contend_line_only bit s)⟩
  | backoffEnd => exact ⟨_, rfl, endBackoff_keeps s⟩
  | breakEnd => exact ⟨_, rfl, endBreak_keeps s⟩
  | falseStart noisy => exact ⟨_, rfl, falseStarted_keeps noisy s⟩
  | lineReturnsToMark => exact ⟨_, rfl, markReturned_keeps s⟩
  | set n i v => exact sent rfl (cmdSet_keeps n.toNat i.toNat v.toInt)
  | get n i => exact sent rfl (cmdGet_keeps n.toNat i.toNat)
  | ack k i => exact sent rfl (cmdAck_keeps k.toNat i.toNat)
  | forget id => exact sent rfl (cmdForget_keeps id.toNat)
  | start => exact sent rfl cmdStart_keeps
  | hold => exact sent rfl cmdHold_keeps
  | resume => exact sent rfl cmdResume_keeps
  | unload => exact sent rfl cmdUnload_keeps
  | clear => exact sent rfl cmdClear_keeps
  | append seg inspect => exact sent rfl (cmdAppend_keeps seg inspect)
  | flush => exact sent rfl flushQueue_keeps
  | ackAll => exact sent rfl cmdAckAll_keeps
  | zero mask => exact sent rfl (cmdZero_keeps mask)
  | clearExtremes => exact sent rfl clearExtremes_keeps
  | clearPeak => exact sent rfl cmdClearPeak_keeps
  | readHits => exact sent rfl dropHits_keeps
  | readNotices => exact sent rfl fun _ => .aside rfl
  | readLine => exact sent rfl fun _ => .aside rfl
  | reset => exact sent rfl resetStation_keeps
  | _ => exact sent rfl fun s => .refl _ s

theorem takeEdge_keeps (e : HostEdge) (s : State) : Kept s (takeEdge e s) := by
  cases e with
  | release =>
    show Kept s (releaseSelect s)
    unfold releaseSelect
    split
    · exact .aside rfl
    · exact .refl _ s
  | _ => exact .aside rfl

theorem tick_keeps (s : State) : Kept s (tick s) := by
  unfold tick
  split
  · exact .aside rfl
  · split
    · exact .aside rfl
    · exact .aside rfl
    · exact KeptBut.behind (takeEdge_keeps _ _) rfl

theorem step_keeps {s t : State} (h : step s = .next t) : Kept s t := by
  unfold step at h
  split at h
  · cases h; exact tick_keeps s
  next c rest _ =>
    obtain ⟨u, run, kept⟩ := exec_keeps c { s with pending := rest }
    rw [run] at h
    cases h
    exact KeptBut.behind kept rfl

/-- Settles O59: each law is a row of clauses, and every step keeps each clause. -/
theorem everyStepKeepsSettingsAndMeasuringCauses : Obligations.EveryStepKeepsSettingsAndMeasuringCauses := by
  have kept (l : Clause) {s t : State} (h : step s = .next t) : l.holds s → l.holds t :=
    step_keeps h l List.not_mem_nil
  exact ⟨fun s t hs h => kept .settings h hs, fun s t hs h i => kept (.strain i) h (hs i),
    fun s t hs h i => kept (.crack i) h (hs i), fun s t hs h => kept .derate h hs⟩

end Sys2Proof.Survey

/-! ## A strain sample, step by step (R136 to R144, R147, R148, R155) -/

namespace Sys2Proof.Survey

open Sys2Proof Sys2Proof.Machine Sys2Proof.Laws Sys2Proof.Safety Sys2Proof.Claims Sys2Proof.Postures

/-! ### The band's choice (R140, R141) -/

section
variable {cfg : StrainSettings} {b : BandState} {trip above below : Nat} {v : Int}

theorem bandFromCounts_above (h : trip ≤ above) : bandFromCounts trip above below = ⟨.above, 0, 0⟩ := if_pos h

theorem bandFromCounts_below (ha : above < trip) (hb : trip ≤ below) :
    bandFromCounts trip above below = ⟨.below, 0, 0⟩ := by
  rw [bandFromCounts, if_neg (Nat.not_le.mpr ha), if_pos hb]

theorem bandFromCounts_within (ha : above < trip) (hb : below < trip) :
    bandFromCounts trip above below = ⟨.within, above, below⟩ := by
  rw [bandFromCounts, if_neg (Nat.not_le.mpr ha), if_neg (Nat.not_le.mpr hb)]

/-- From WITHIN and from FAULT the two counts choose. -/
theorem bandStep_counted (h : b.band = .within ∨ b.band = .fault) :
    bandStep cfg b v = bandFromCounts cfg.tripCount (if cfg.upperTrip < v then min (b.above + 1) 15 else 0)
      (if v < cfg.lowerTrip then min (b.below + 1) 15 else 0) := by
  obtain h | h := h <;> (rw [bandStep, h]; rfl)

theorem bandStep_above_held (h : b.band = .above) (hv : cfg.upperRelease < v) :
    (bandStep cfg b v).band = .above := by
  rw [bandStep, h]
  exact congrArg BandState.band (if_pos hv)

/-- ABOVE is left for WITHIN where the value is no trip of BELOW. -/
theorem bandStep_above_released (h : b.band = .above) (hv : v ≤ cfg.upperRelease) (hl : cfg.lowerTrip ≤ v)
    (trip : 1 ≤ cfg.tripCount) : (bandStep cfg b v).band = .within := by
  rw [bandStep, h]
  simp only [if_neg (Int.not_lt.mpr hv), if_neg (Int.not_lt.mpr hl), bandFromCounts_within trip trip]

theorem bandStep_below_held (h : b.band = .below) (hv : v < cfg.lowerRelease) :
    (bandStep cfg b v).band = .below := by
  rw [bandStep, h]
  exact congrArg BandState.band (if_pos hv)

/-- BELOW is left for WITHIN where the value is no trip of ABOVE. -/
theorem bandStep_below_released (h : b.band = .below) (hv : cfg.lowerRelease ≤ v) (hu : v ≤ cfg.upperTrip)
    (trip : 1 ≤ cfg.tripCount) : (bandStep cfg b v).band = .within := by
  rw [bandStep, h]
  simp only [if_neg (Int.not_lt.mpr hv), if_neg (Int.not_lt.mpr hu), bandFromCounts_within trip trip]

end

theorem widen_eq (v : Int) (p : Option (Int × Int)) : widen v p = match p with
    | some p => (max p.1 v, min p.2 v)
    | none => (v, v) := by
  cases p <;> rfl

/-! ### The evaluations behind a channel written (R142, R143) -/

section
variable (i : Fin 32) (s : State)

theorem evalStrain_strain : (evalStrain i s).strain = s.strain := (report_keeps _ _ s).strain

theorem evalStrain_settings : (evalStrain i s).settings = s.settings := (report_keeps _ _ s).settings

theorem evalStrain_condition : ((evalStrain i s).entry (.strain i)).condition =
    strainCondition s.settings.strain[i] s.strain.channels[i] :=
  reportWith_condition (by simp) (by simp) true _ s

theorem evalDerate_strain : (evalDerate s).strain =
    { s.strain with derateDemand := derateCondition s.settings s.strain } := rfl

theorem evalDerate_law : derateLaw (evalDerate s) := rfl

end

/-! ### The zeroing fed (R147) -/

/-- The channel behind one more valid sample of its zeroing. -/
def fedChannel (r : Int) (c : StrainChannel) : StrainChannel :=
  match c.zeroing with
  | none => c
  | some z =>
    if z.count + 1 < 64 then { c with zeroing := some ⟨z.count + 1, z.sum + r⟩ }
    else { c with zeroing := none, aboveCount := 0, belowCount := 0 }

section
variable {i : Fin 32} {r : Int} {c : StrainChannel} {s : State} {z : Zeroing}

theorem fedChannel_none (h : c.zeroing = none) : fedChannel r c = c := by rw [fedChannel, h]

theorem fedChannel_more (h : c.zeroing = some z) (more : z.count + 1 < 64) :
    fedChannel r c = { c with zeroing := some ⟨z.count + 1, z.sum + r⟩ } := by
  rw [fedChannel, h]
  exact if_pos more

theorem fedChannel_done (h : c.zeroing = some z) (done : 64 ≤ z.count + 1) :
    fedChannel r c = { c with zeroing := none, aboveCount := 0, belowCount := 0 } := by
  rw [fedChannel, h]
  exact if_neg (Nat.not_lt.mpr done)

/-- The zeroing leaves the channel's reading and its band. -/
theorem fedChannel_reading (r : Int) (c : StrainChannel) :
    (fedChannel r c).last = c.last ∧ (fedChannel r c).clampFlag = c.clampFlag ∧
    (fedChannel r c).extremes = c.extremes ∧ (fedChannel r c).band = c.band := by
  unfold fedChannel
  split
  · exact ⟨rfl, rfl, rfl, rfl⟩
  · split <;> exact ⟨rfl, rfl, rfl, rfl⟩

theorem feedZeroing_none (h : s.strain.channels[i].zeroing = none) : feedZeroing i r s = s := by
  rw [feedZeroing, h]

theorem feedZeroing_more (h : s.strain.channels[i].zeroing = some z) (more : z.count + 1 < 64) :
    feedZeroing i r s = setStrainChannel i (fedChannel r s.strain.channels[i]) s := by
  rw [fedChannel_more h more, feedZeroing, h]
  exact if_pos more

theorem feedZeroing_done (h : s.strain.channels[i].zeroing = some z) (done : 64 ≤ z.count + 1) :
    feedZeroing i r s = pushNotice (.zeroDone i (roundDiv (z.sum + r) 64))
      { setStrainChannel i (fedChannel r s.strain.channels[i]) s with
        settings := { s.settings with
          strain := s.settings.strain.set i
            { s.settings.strain[i] with zeroOffset := roundDiv (z.sum + r) 64 } } } := by
  rw [fedChannel_done h done, feedZeroing, h]
  exact if_neg (Nat.not_lt.mpr done)

theorem channels_set_self (u : Strain) (i : Fin 32) : u.channels.set i u.channels[i] = u.channels := by simp

theorem feedZeroing_strain (i : Fin 32) (r : Int) (s : State) : (feedZeroing i r s).strain =
    { s.strain with channels := s.strain.channels.set i (fedChannel r s.strain.channels[i]) } := by
  cases h : s.strain.channels[i].zeroing with
  | none => rw [feedZeroing_none h, fedChannel_none h, channels_set_self]
  | some z =>
    rcases Nat.lt_or_ge (z.count + 1) 64 with more | done
    · rw [feedZeroing_more h more]; rfl
    · rw [feedZeroing_done h done]; rfl

theorem feedZeroing_entry (i : Fin 32) (r : Int) (s : State) (d : Cause) :
    (feedZeroing i r s).entry d = s.entry d := by
  unfold feedZeroing
  split
  · rfl
  · split <;> rfl

end

/-! ### The drift record fed (R155) -/

section
variable {i : Fin 32} {v : Int} {s : State}

theorem feedDrift_watched (h : (s.strain.watched.isSome && watchedChannel s.settings.strain[i]) = true) :
    feedDrift i v s =
      setDriftRecord i { s.strain.drift[i] with cycle := some (widen v s.strain.drift[i].cycle) } s := if_pos h

theorem feedDrift_unwatched (h : (s.strain.watched.isSome && watchedChannel s.settings.strain[i]) = false) :
    feedDrift i v s = s := if_neg (by rw [h]; decide)

theorem feedDrift_channels (i : Fin 32) (v : Int) (s : State) :
    (feedDrift i v s).strain.channels = s.strain.channels := by
  unfold feedDrift
  split <;> rfl

theorem feedDrift_settings (i : Fin 32) (v : Int) (s : State) : (feedDrift i v s).settings = s.settings := by
  unfold feedDrift
  split <;> rfl

theorem feedDrift_entry (i : Fin 32) (v : Int) (s : State) (d : Cause) :
    (feedDrift i v s).entry d = s.entry d := by
  unfold feedDrift
  split <;> rfl

end

/-! ### A valid sample (R137) -/

/-- The channel's band state with its counts. -/
abbrev bandOf (c : StrainChannel) : BandState := ⟨c.band, c.aboveCount, c.belowCount⟩

/-- The channel behind a valid sample. -/
def workedChannel (i : Fin 32) (r : Int) (s : State) : StrainChannel :=
  fedChannel r (strainRecord s.settings.strain[i] r s.strain.channels[i])

section
variable {i : Fin 32} {r : Int} {s : State} {z : Zeroing}

/-- The zeroing leaves what steps 1 to 3 write. -/
theorem workedChannel_reading (i : Fin 32) (r : Int) (s : State) :
    (workedChannel i r s).last = some (convertStrain s.settings.strain[i] r) ∧
    (workedChannel i r s).clampFlag =
      decide (convertStrain s.settings.strain[i] r ≠ rawStrain s.settings.strain[i] r) ∧
    (workedChannel i r s).extremes =
      some (widen (convertStrain s.settings.strain[i] r) s.strain.channels[i].extremes) ∧
    (workedChannel i r s).band = (bandStep s.settings.strain[i] (bandOf s.strain.channels[i])
      (convertStrain s.settings.strain[i] r)).band :=
  fedChannel_reading r (strainRecord s.settings.strain[i] r s.strain.channels[i])

theorem workedChannel_idle (h : s.strain.channels[i].zeroing = none) :
    workedChannel i r s = strainRecord s.settings.strain[i] r s.strain.channels[i] := fedChannel_none h

theorem workedChannel_zeroing_more (h : s.strain.channels[i].zeroing = some z) (more : z.count + 1 < 64) :
    (workedChannel i r s).zeroing = some ⟨z.count + 1, z.sum + r⟩ :=
  congrArg StrainChannel.zeroing (fedChannel_more (c := strainRecord s.settings.strain[i] r _) h more)

theorem workedChannel_zeroing_done (h : s.strain.channels[i].zeroing = some z) (done : 64 ≤ z.count + 1) :
    (workedChannel i r s).zeroing = none :=
  congrArg StrainChannel.zeroing (fedChannel_done (c := strainRecord s.settings.strain[i] r _) h done)

end

/-- The state behind the first four steps of R137. -/
def evaluatedSample (i : Fin 32) (r : Int) (s : State) : State :=
  evalDerate (evalStrain i (setStrainChannel i (strainRecord s.settings.strain[i] r s.strain.channels[i]) s))

section
variable (i : Fin 32) (r : Int) (s : State)

theorem takeStrainValue_eq : takeStrainValue i r s =
    feedDrift i (convertStrain s.settings.strain[i] r) (feedZeroing i r (evaluatedSample i r s)) := rfl

theorem evaluatedSample_settings : (evaluatedSample i r s).settings = s.settings := evalStrain_settings i _

theorem evaluatedSample_channels : (evaluatedSample i r s).strain.channels =
    s.strain.channels.set i (strainRecord s.settings.strain[i] r s.strain.channels[i]) := by
  rw [evaluatedSample, evalDerate_strain, evalStrain_strain]
  rfl

theorem evaluatedSample_channel : (evaluatedSample i r s).strain.channels[i] =
    strainRecord s.settings.strain[i] r s.strain.channels[i] := by
  simp [evaluatedSample_channels]

theorem evaluatedSample_drift : (evaluatedSample i r s).strain.drift = s.strain.drift ∧
    (evaluatedSample i r s).strain.watched = s.strain.watched := by
  rw [evaluatedSample, evalDerate_strain, evalStrain_strain]
  exact ⟨rfl, rfl⟩

theorem takeStrainValue_channels : (takeStrainValue i r s).strain.channels =
    s.strain.channels.set i (workedChannel i r s) := by
  rw [takeStrainValue_eq, feedDrift_channels, feedZeroing_strain, evaluatedSample_channel, evaluatedSample_channels]
  simp [workedChannel]

theorem takeStrainValue_channel : (takeStrainValue i r s).strain.channels[i] = workedChannel i r s := by
  simp [takeStrainValue_channels]

theorem takeStrainValue_condition : ((takeStrainValue i r s).entry (.strain i)).condition =
    strainCondition s.settings.strain[i] (workedChannel i r s) := by
  obtain ⟨-, -, -, band⟩ := fedChannel_reading r (strainRecord s.settings.strain[i] r s.strain.channels[i])
  rw [takeStrainValue_eq, feedDrift_entry, feedZeroing_entry, evaluatedSample, evalDerate_entry,
    evalStrain_condition, setStrainChannel_getElem, if_pos rfl]
  exact (strainCondition_congr rfl rfl band).symm

variable {r} in
/-- The zeroing's offset and the drift record leave the derate demand as evaluated (R143). -/
theorem takeStrainValue_demand (hr : r.natAbs ≤ 8388607) : derateLaw (takeStrainValue i r s) :=
  ((feedZeroing_keeps i hr _).trans (feedDrift_keeps i _ _)) .derate List.not_mem_nil (evalDerate_law _)

variable {i r s} in
theorem takeStrainValue_settings_kept
    (h : ∀ z, s.strain.channels[i].zeroing = some z → z.count + 1 < 64) :
    (takeStrainValue i r s).settings = s.settings := by
  have zeroing : (evaluatedSample i r s).strain.channels[i].zeroing = s.strain.channels[i].zeroing := by
    rw [evaluatedSample_channel]; rfl
  rw [takeStrainValue_eq, feedDrift_settings]
  cases hz : s.strain.channels[i].zeroing with
  | none => rw [feedZeroing_none (zeroing.trans hz), evaluatedSample_settings]
  | some z => rw [feedZeroing_more (zeroing.trans hz) (h z hz), setStrainChannel_settings, evaluatedSample_settings]

variable {i r s} in
theorem takeStrainValue_settings_done {z : Zeroing} (hz : s.strain.channels[i].zeroing = some z)
    (done : 64 ≤ z.count + 1) : (takeStrainValue i r s).settings = { s.settings with
      strain := s.settings.strain.set i
        { s.settings.strain[i] with zeroOffset := roundDiv (z.sum + r) 64 } } := by
  have zeroing : (evaluatedSample i r s).strain.channels[i].zeroing = some z := by
    rw [evaluatedSample_channel]; exact hz
  rw [takeStrainValue_eq, feedDrift_settings, feedZeroing_done zeroing done, pushNotice_settings]
  rw [evaluatedSample_settings]

/-- The drift record's turn sees the drift records, the watched cycle and the channel's watch as the sample found
them. -/
theorem fedSample_drift : (feedZeroing i r (evaluatedSample i r s)).strain.drift = s.strain.drift ∧
    (feedZeroing i r (evaluatedSample i r s)).strain.watched = s.strain.watched := by
  rw [feedZeroing_strain]
  exact evaluatedSample_drift i r s

theorem fedSample_watch : watchedChannel (feedZeroing i r (evaluatedSample i r s)).settings.strain[i] =
    watchedChannel s.settings.strain[i] := by
  rw [← feedDrift_settings i (convertStrain s.settings.strain[i] r), ← takeStrainValue_eq]
  by_cases h : ∀ z, s.strain.channels[i].zeroing = some z → z.count + 1 < 64
  · rw [takeStrainValue_settings_kept h]
  · push Not at h
    obtain ⟨z, hz, done⟩ := h
    rw [takeStrainValue_settings_done hz done]
    simp [watchedChannel]

variable {i s} in
theorem takeStrainValue_drift_watched (watched : s.strain.watched.isSome = true)
    (channel : watchedChannel s.settings.strain[i] = true) : (takeStrainValue i r s).strain.drift =
      s.strain.drift.set i { s.strain.drift[i] with
        cycle := some (widen (convertStrain s.settings.strain[i] r) s.strain.drift[i].cycle) } := by
  obtain ⟨drift, cycle⟩ := fedSample_drift i r s
  rw [takeStrainValue_eq, feedDrift_watched (by simp only [cycle, fedSample_watch, watched, channel, Bool.and_self])]
  simp only [setDriftRecord, drift]

variable {i s} in
theorem takeStrainValue_drift_unwatched
    (h : (s.strain.watched.isSome && watchedChannel s.settings.strain[i]) = false) :
    (takeStrainValue i r s).strain.drift = s.strain.drift := by
  obtain ⟨drift, cycle⟩ := fedSample_drift i r s
  rw [takeStrainValue_eq, feedDrift_unwatched (by rw [cycle, fedSample_watch, h]), drift]

end

/-! ### A fault-code sample (R139, R148) -/

/-- The channel behind a fault-code sample. -/
def faultedChannel (c : StrainChannel) : StrainChannel :=
  { c with band := .fault, aboveCount := 0, belowCount := 0, zeroing := none }

section
variable (i : Fin 32) (s : State)

theorem abandonZeroing_frame (why : AbandonReason) : (abandonZeroing i why s).settings = s.settings ∧
    (abandonZeroing i why s).strain = { s.strain with
      channels := s.strain.channels.set i { s.strain.channels[i] with zeroing := none } } := by
  unfold abandonZeroing
  split
  next h =>
    have same : { s.strain.channels[i] with zeroing := none } = s.strain.channels[i] := by rw [← h]
    exact ⟨rfl, by rw [same, channels_set_self]⟩
  · exact ⟨rfl, rfl⟩

/-- The channel of a fault-code sample, written before the evaluations. -/
theorem faulted_frame : ∃ u, takeStrainFault i s = evalDerate (evalStrain i u) ∧ u.settings = s.settings ∧
    u.strain = { s.strain with
      channels := s.strain.channels.set i (faultedChannel s.strain.channels[i]) } := by
  refine ⟨_, rfl, (abandonZeroing_frame i _ .fault).1, (abandonZeroing_frame i _ .fault).2.trans ?_⟩
  simp [setStrainChannel, faultedChannel]

end

/-! ### The sample an instruction brings -/

section
variable {i : Fin 32} {v : BitVec 24} {s : State}

theorem sampleValue_valid (h : v.toInt ≠ -8388608) : sampleValue v = some v.toInt := if_neg h

theorem sampleValue_fault (h : v.toInt = -8388608) : sampleValue v = none := if_pos h

theorem exec_strainSample_disabled (h : s.settings.strain[i].enable = false) :
    exec (.strainSample i v) s = .next s := congrArg Host.Outcome.next (if_neg (by rw [h]; decide))

theorem exec_strainSample_valid (h : s.settings.strain[i].enable = true) (hv : v.toInt ≠ -8388608) :
    exec (.strainSample i v) s = .next (takeStrainValue i v.toInt s) := by
  have taken : takeStrainSample i v s = takeStrainValue i v.toInt s := by
    rw [takeStrainSample, if_pos h, sampleValue_valid hv]
  exact congrArg Host.Outcome.next taken

theorem exec_strainSample_fault (h : s.settings.strain[i].enable = true) (hv : v.toInt = -8388608) :
    exec (.strainSample i v) s = .next (takeStrainFault i s) := by
  have taken : takeStrainSample i v s = takeStrainFault i s := by
    rw [takeStrainSample, if_pos h, sampleValue_fault hv]
  exact congrArg Host.Outcome.next taken

end

/-- Settles O45, from what each step of R137 writes: the record of steps 1 to 3, the zeroing's channel and offset, the
drift record, and the band's fault. -/
theorem strainSampleIsWorked : Obligations.StrainSampleIsWorked := by
  refine ⟨?_, fun i v s => ⟨exec_strainSample_disabled, fun enabled code => ?_⟩⟩
  · rintro i v s _ _ q x above below rfl rfl enabled valid hq hx ha hb
    have converted : convertStrain s.settings.strain[i] v.toInt = x := by rw [hx, hq]; rfl
    have raw : rawStrain s.settings.strain[i] v.toInt = q := hq.symm
    obtain ⟨last, clampFlag, extremes, stepped⟩ := workedChannel_reading i v.toInt s
    rw [converted] at last clampFlag extremes stepped
    rw [raw] at clampFlag
    refine ⟨takeStrainValue i v.toInt s, workedChannel i v.toInt s, exec_strainSample_valid enabled valid,
      (takeStrainValue_channel i _ s).symm, takeStrainValue_channels i _ s, last,
      by rw [clampFlag, decide_eq_true_iff], extremes.trans (congrArg some (widen_eq x _)),
      fun rest => ?_, ?_, ?_, ?_, ?_, takeStrainValue_condition i _ s,
      takeStrainValue_demand i s (sampleValue_bound (sampleValue_valid valid)),
      fun idle => ?_, fun z hz more => ?_, fun z hz done => ?_, fun watched watch => ?_, fun unwatched => ?_⟩
    · have counted := bandStep_counted (cfg := s.settings.strain[i]) (v := x) (b := bandOf s.strain.channels[i]) rest
      rw [← ha, ← hb] at counted
      rw [stepped, counted]
      refine ⟨fun up => by rw [bandFromCounts_above up], fun low down => by rw [bandFromCounts_below low down],
        fun low high => ?_⟩
      rw [bandFromCounts_within low high] at counted ⊢
      refine ⟨rfl, fun idle => ?_⟩
      rw [workedChannel_idle idle]
      simp only [strainRecord, converted, counted, and_self]
    · intro up held; rw [stepped]; exact bandStep_above_held up held
    · intro up released low trip; rw [stepped]; exact bandStep_above_released up released low trip
    · intro down held; rw [stepped]; exact bandStep_below_held down held
    · intro down released high trip; rw [stepped]; exact bandStep_below_released down released high trip
    · refine ⟨?_, takeStrainValue_settings_kept fun z hz => absurd (idle.symm.trans hz) (by simp)⟩
      rw [workedChannel_idle idle]; exact idle
    · refine ⟨workedChannel_zeroing_more hz more, takeStrainValue_settings_kept fun z' hz' => ?_⟩
      cases hz.symm.trans hz'
      exact more
    · exact ⟨workedChannel_zeroing_done hz done, takeStrainValue_settings_done hz done⟩
    · have widened := takeStrainValue_drift_watched v.toInt watched (by rw [watchedChannel, enabled, watch]; rfl)
      rw [converted, widen_eq] at widened
      exact widened
    · refine takeStrainValue_drift_unwatched _ ?_
      obtain idle | off := unwatched
      · rw [idle]; rfl
      · rw [watchedChannel, off, Bool.and_false, Bool.and_false]
  · obtain ⟨u, taken, settings, strain⟩ := faulted_frame i s
    have fault : u.strain.channels[i] = faultedChannel s.strain.channels[i] := by simp [strain]
    have kept : (takeStrainFault i s).settings = s.settings := by
      rw [taken, evalDerate_settings, evalStrain_settings, settings]
    refine ⟨takeStrainFault i s, exec_strainSample_fault enabled code, kept, ?_, ?_, ?_, ?_⟩
    · rw [taken, evalDerate_strain, evalStrain_strain, strain]; rfl
    · rw [taken, evalDerate_entry, evalStrain_condition, settings, fault, strainCondition, enabled]
      rfl
    · rw [← kept, taken]; exact evalDerate_law _
    · rw [taken, evalDerate_strain, evalStrain_strain, strain]

end Sys2Proof.Survey

/-! ## ZERO and CLEAR EXTREMES (R145, R146) -/

namespace Sys2Proof.Survey

open Sys2Proof Sys2Proof.Machine Sys2Proof.Laws Sys2Proof.Safety Sys2Proof.Claims Sys2Proof.Postures

/-- A command that writes the strain channels alone. -/
theorem exec_channels {c : Instr} {code : Byte} {body : State → State × Reply} {data : List Byte} {s : State}
    {channels : Vector StrainChannel 32} (he : exec c s = .next (sendCommand c body s))
    (hc : commandCode c = some code) (ready : Ready s)
    (hb : body s = accept { s with strain := { s.strain with channels := channels } } data) :
    ∃ t, exec c s = .next t ∧ Answers code .ok data t ∧
      t = { s with strain := { s.strain with channels := t.strain.channels }, link := exchanged s t } ∧
      t.link.notices = s.link.notices ∧ t.strain.channels = channels := by
  obtain ⟨t, run, answered, answers⟩ := ServoIntake.exec_answered he hc ready hb (sameHost_refl _)
  refine ⟨t, run, answers, ?_, answered.notices, ?_⟩
  · rw [answered.strain]; exact answered.frame
  · rw [answered.strain]

/-- Settles O27: the command writes the extremes alone, and a value widens an empty pair to itself twice. -/
theorem clearExtremesEmptiesEveryPair : Obligations.ClearExtremesEmptiesEveryPair := by
  refine ⟨fun s ready => ?_, fun i v s enabled emptied valid => ?_⟩
  · obtain ⟨t, run, answers, frame, notices, channels⟩ :=
      exec_channels (c := .clearExtremes) (body := cmdClearExtremes) rfl rfl ready
        (by rw [cmdClearExtremes, clearExtremes])
    refine ⟨t, run, answers, frame, notices, fun i => ?_⟩
    rw [channels]
    exact getElem_tabulate _ i.val i.isLt
  · obtain ⟨last, -, extremes, -⟩ := workedChannel_reading i v.toInt s
    refine ⟨_, convertStrain s.settings.strain[i] v.toInt, exec_strainSample_valid enabled valid, ?_, ?_⟩
    · rw [takeStrainValue_channel, last]
    · rw [takeStrainValue_channel, extremes, emptied]; rfl

/-! ### The mask of the channels started -/

/-- The sum of the powers of two at the places set is the number with these bits. -/
theorem sum_pow_eq_ofBits {n : Nat} (f : Fin n → Bool) :
    ((List.finRange n).map fun i => if f i then 2 ^ i.val else 0).sum = Nat.ofBits f := by
  induction n with
  | zero => rfl
  | succ n ih =>
    have tail : ((List.finRange n).map fun i => if f i.succ then 2 ^ i.succ.val else 0).sum =
        2 * Nat.ofBits (f ∘ Fin.succ) := by
      rw [← ih, ← List.sum_map_mul_left]
      congr 2
      funext i
      by_cases h : f i.succ <;> simp [h, Nat.pow_succ, Nat.mul_comm]
    rw [Nat.ofBits_succ, ← tail, List.finRange_succ, List.map_cons, List.sum_cons, List.map_map, Nat.add_comm]
    cases f 0 <;> rfl

theorem startedMask_eq (mask : BitVec 32) (s : State) : startedMask mask s = Nat.ofBits (zeroStarts mask s) :=
  sum_pow_eq_ofBits _

theorem startedMask_lt (mask : BitVec 32) (s : State) : startedMask mask s < 2 ^ 32 := by
  rw [startedMask_eq]; exact Nat.ofBits_lt_two_pow _

theorem startedMask_bit (mask : BitVec 32) (s : State) (i : Fin 32) :
    (BitVec.ofNat 32 (startedMask mask s)).getLsbD i = zeroStarts mask s i := by
  rw [BitVec.getLsbD_ofNat, startedMask_eq, Nat.testBit_ofBits_lt _ _ i.isLt]
  simp

/-- ZERO is accepted in IDLE and HOLD (R146, 10.2). -/
theorem cmdZero_accepted {mask : BitVec 32} {s : State} (hp : s.posture = .idle ∨ s.posture = .hold) :
    cmdZero mask s = accept (startZeroing mask s) (be 4 (startedMask mask s : Nat)) := by
  obtain hp | hp := hp <;> rw [cmdZero, hp]

/-- Settles O26: the mask answered has the bits of the channels on which the operation starts. -/
theorem zeroStartsTheNamedChannels : Obligations.ZeroStartsTheNamedChannels := by
  intro mask s ready hp
  obtain ⟨t, run, answers, frame, notices, channels⟩ := exec_channels (c := .zero mask) rfl rfl ready
    (by rw [cmdZero_accepted hp, startZeroing])
  refine ⟨t, BitVec.ofNat 32 (startedMask mask s), run, startedMask_bit mask s, ?_, frame, notices, fun i => ?_⟩
  · rw [BitVec.toNat_ofNat, Nat.mod_eq_of_lt (startedMask_lt mask s)]
    exact answers
  · rw [channels, startedMask_bit]
    exact getElem_tabulate _ i.val i.isLt

end Sys2Proof.Survey

/-! ## The drift records at a cycle close (R156 to R160) -/

namespace Sys2Proof.DriftRecords

open Sys2Proof Sys2Proof.Machine Sys2Proof.Laws Sys2Proof.Safety Sys2Proof.Claims Sys2Proof.Postures
open Sys2Proof.LoadProgram

/-! ### One record (R156 to R159) -/

section
variable (st : Settings) (range : Nat) {r : DriftRecord}

/-- The use of a range leaves what the close itself wrote (R156). -/
theorem useRange_frame (r : DriftRecord) : (useRange st range r).cycle = r.cycle ∧
    (useRange st range r).lastRange = r.lastRange ∧ (useRange st range r).lastInterrupted = r.lastInterrupted := by
  unfold useRange
  cases r.state with
  | noRef => exact ⟨rfl, rfl, rfl⟩
  | gathering =>
    simp only
    split <;> exact ⟨rfl, rfl, rfl⟩
  | watching => exact ⟨rfl, rfl, rfl⟩

/-- In GATHERING a range joins the sum (R157). -/
theorem useRange_sums (h : r.state = .gathering) : (useRange st range r).sum = r.sum + range ∧
    (useRange st range r).gathered = r.gathered + 1 ∧ (useRange st range r).lastDrift = r.lastDrift := by
  simp only [useRange, h]
  split <;> exact ⟨rfl, rfl, rfl⟩

variable {st}

/-- Short of the reference cycles the gathering goes on (R157). -/
theorem useRange_gathers (h : r.state = .gathering) (few : r.gathered + 1 < st.referenceCycles) :
    (useRange st range r).state = .gathering ∧ (useRange st range r).reference = r.reference := by
  simp [useRange, h, Nat.not_le.mpr few]

/-- At the reference cycles the mean is the reference, and there is none to watch against where it is 0 (R157, R158). -/
theorem useRange_refers (h : r.state = .gathering) (full : st.referenceCycles ≤ r.gathered + 1) :
    (useRange st range r).reference = some ((r.sum + range) / (r.gathered + 1)) ∧
      (useRange st range r).state = if (r.sum + range) / (r.gathered + 1) = 0 then .noRef else .watching := by
  simp [useRange, h, full]

/-- In WATCHING the drift is taken against the reference and its excess counted (R159). -/
theorem useRange_watches {ref : Nat} (h : r.state = .watching) (href : r.reference = some ref) :
    useRange st range r =
      { r with
        lastDrift := some (driftOf range ref)
        excess := if st.driftLimit < (driftOf range ref).natAbs then min (r.excess + 1) 255 else 0 } := by
  simp only [useRange, h, href]
  rfl

end

section
variable {st : Settings} {r : DriftRecord}

/-- A cycle without a value has no range (R156). -/
theorem closeRecord_of_empty (m : Bool) (h : r.cycle = none) :
    closeRecord st m r = { r with lastRange := none, lastInterrupted := true } := by
  rw [closeRecord, h]

/-- An interrupted cycle's range is not used (R156). -/
theorem closeRecord_of_interrupted {hi lo : Int} (h : r.cycle = some (hi, lo)) : closeRecord st true r =
    { r with cycle := none, lastRange := some (hi - lo).toNat, lastInterrupted := true } := by
  rw [closeRecord, h]
  rfl

/-- The record of a full cycle at its close, before its range is used (R156). -/
def fullCycle (range : Nat) (r : DriftRecord) : DriftRecord :=
  { r with cycle := none, lastRange := some range, lastInterrupted := false }

/-- A full cycle's range is used (R156). -/
theorem closeRecord_of_full {hi lo : Int} (h : r.cycle = some (hi, lo)) : closeRecord st false r =
    useRange st (hi - lo).toNat (fullCycle (hi - lo).toNat r) := by
  rw [closeRecord, h]
  rfl

end

/-! ### The close (R156, R160) -/

/-- The work at a close of a watched cycle on the strain unit: each watched record, and the last close (R156). -/
theorem cycleClose_strain (close : CycleClose) (x : State) : ∃ worked : Vector DriftRecord 32,
    (cycleClose close true x).strain = { x.strain with drift := worked, lastClose := some close } ∧
    ∀ i : Fin 32, worked[i] = if watchedChannel x.settings.strain[i] then
      closeRecord x.settings close.interrupted x.strain.drift[i] else x.strain.drift[i] := by
  refine ⟨tabulate fun i => if watchedChannel x.settings.strain[i] then
    closeRecord x.settings close.interrupted x.strain.drift[i] else x.strain.drift[i], ?_,
    fun i => getElem_tabulate _ i.val i.isLt⟩
  rw [cycleClose, if_pos rfl]
  exact (report_keeps _ _ _).strain.trans (pushNotices_keeps _ _).strain

theorem cycleClose_settings (close : CycleClose) (x : State) : (cycleClose close true x).settings = x.settings := by
  rw [cycleClose, if_pos rfl]
  exact (report_keeps _ _ _).settings.trans (pushNotices_keeps _ _).settings

/-- DRIFT's condition is that of the records (R160). -/
abbrev DriftTold (s : State) : Prop := (s.entry .drift).condition = driftCondition s.settings s.strain

theorem evalDrift_told (s : State) : DriftTold (evalDrift s) := by
  have k := report_keeps .drift (driftCondition s.settings s.strain) s
  rw [DriftTold, evalDrift, k.settings, k.strain]
  exact reportWith_condition (by simp) (by simp) true _ s

theorem cycleClose_told (close : CycleClose) (x : State) : DriftTold (cycleClose close true x) := by
  rw [cycleClose, if_pos rfl]
  exact evalDrift_told _

/-! ### The rest of the period leaves the drift watch (R42, R53) -/

/-- The settings, the strain unit and DRIFT's entry stand as they were. -/
structure DriftStands (s t : State) : Prop where
  settings : t.settings = s.settings
  strain : t.strain = s.strain
  entry : t.entry .drift = s.entry .drift

theorem DriftStands.refl (s : State) : DriftStands s s := ⟨rfl, rfl, rfl⟩

theorem DriftStands.trans {s t u : State} (h : DriftStands s t) (k : DriftStands t u) : DriftStands s u :=
  ⟨k.settings.trans h.settings, k.strain.trans h.strain, k.entry.trans h.entry⟩

theorem DriftStands.of_keeps {s t : State} (k : Keeps s t) (causes : t.causes = s.causes) : DriftStands s t :=
  ⟨k.settings, k.strain, by rw [State.entry, State.entry, causes]⟩

theorem DriftStands.of_servo (v : Servo) (s : State) : DriftStands s { s with servo := v } := ⟨rfl, rfl, rfl⟩

theorem DriftStands.told {s t : State} (h : DriftStands s t) (k : DriftTold s) : DriftTold t := by
  rw [DriftTold, h.entry, h.settings, h.strain]
  exact k

theorem report_driftStands {c : Cause} (hc : .drift ≠ c) (v : Bool) (s : State) : DriftStands s (report c v s) :=
  ⟨(report_keeps c v s).settings, (report_keeps c v s).strain,
    reportWith_entry_other hc (by simp) (by simp) true v s⟩

theorem pulse_driftStands {c : Cause} (hc : .drift ≠ c) (s : State) : DriftStands s (pulse c s) :=
  (report_driftStands hc true s).trans (report_driftStands hc false _)

theorem endUnload_driftStands (k : Option Cause) (o : UnloadOutcome) (s : State) :
    DriftStands s (endUnload k o s) :=
  ⟨(endUnload_keeps k o s).settings, (endUnload_keeps k o s).strain, by rw [endUnload_entry, if_neg (by simp)]⟩

theorem completeSegment_driftStands (g : Segment) (s : State) : DriftStands s (completeSegment g s) := by
  have retired : DriftStands s (pushNotice (.segmentDone g.seq g.body.kind false) (retireHead g s)) := ⟨rfl, rfl, rfl⟩
  have taken := retired.trans (.of_keeps (takeIntoFlight_keeps _) (takeIntoFlight_causes _))
  unfold completeSegment
  simp only
  refine DriftStands.trans ?_ (.of_keeps (starvedTest_keeps _) (starvedTest_causes _))
  split
  · exact taken.trans (pulse_driftStands (by simp) _)
  · exact taken

theorem closeCycle_driftStands (g : Segment) (mean : Int) (count n : Nat) (watch m : Bool) (x : State) :
    DriftStands
      (cycleClose ⟨g.seq, n + 1, m⟩ watch (setFlight (.cycle true 0 (n + 1) false) (setSetpoint (mean * 256) x)))
      (closeCycle g mean count n watch m x) := by
  unfold closeCycle
  simp only
  split
  · exact completeSegment_driftStands g _
  · exact .refl _

theorem targetStage_driftStands (s : State) : DriftStands s (targetStage s) := by
  unfold targetStage
  split <;> exact .of_servo _ s

theorem loopStage_driftStands (s : State) : DriftStands s (loopStage s) := by
  have computed := DriftStands.of_servo (loopStages s.settings s.loadNow s.servo) s
  exact (computed.trans (report_driftStands (by simp) _ _)).trans (report_driftStands (by simp) _ _)

theorem settleStage_driftStands (s : State) : DriftStands s (settleStage s) := by
  unfold settleStage
  split
  · exact .refl s
  · split
    · exact .of_servo _ s
    · exact (DriftStands.of_servo _ s).trans (endUnload_driftStands _ _ _)

/-- Stages 2 to 9 leave the drift watch as the program unit's work has made it (R53). -/
theorem controlPeriod_driftStands (s : State) : DriftStands (beforeLoop s) (controlPeriod s) := by
  have looped : DriftStands (beforeLoop s) (loopToStage8 (beforeLoop s)).1 :=
    (targetStage_driftStands _).trans (loopStage_driftStands _)
  unfold controlPeriod
  simp only
  split
  · exact .of_servo _ _
  · split
    · exact looped.trans (settleStage_driftStands _)
    · exact looped

/-! ### The last phase of a cycle (R39) -/

/-- The state in which a cycle's close reaches the strain unit, the next cycle begun (R39; log 8). -/
def closedAt (s : State) (mean : Int) (n : Nat) : State :=
  reached s (mean * 256) (some (.cycle true 0 (n + 1) false)) false

theorem beforeLoop_of_lastPhase {s : State} {g : Segment} {rest : List Segment} {mean : Int}
    {amplitude quarter count p n : Nat} {watch m : Bool} (hp : s.posture = .run) (hf : loadFresh s)
    (paced : s.program.paced = false) (starved : s.program.starved = false) (full : s.strain.derateDemand = false)
    (queue : s.program.queue = g :: rest) (body : g.body = .cycle mean amplitude quarter count watch)
    (flight : s.program.flight = some (.cycle true p n m)) (last : 4 * quarter ≤ p + 1) :
    DriftStands (cycleClose ⟨g.seq, n + 1, m⟩ watch (closedAt s mean n)) (beforeLoop s) := by
  have undivided : (stepped s).program.derated = false := full
  have wraps : nextPhase quarter p = 0 := if_neg (Nat.not_lt.mpr last)
  have before : beforeLoop s = closeCycle g mean count n watch m
      { stepped s with program := { (stepped s).program with halfStep := false } } := by
    calc beforeLoop s
      _ = programExpiry { rearmControl s with servo := countStale s.servo } := by
          rw [Machine.beforeLoop, staleStage_of_fresh (s := rearmControl s) hf]; rfl
      _ = stepSegment g (.cycle true p n m) (stepped s) :=
          programExpiry_of_advancing (u := { rearmControl s with servo := countStale s.servo }) hp paced starved
            queue flight
      _ = stepCycle g mean amplitude quarter count watch p n m (stepped s) := stepSegment_cycle body rfl _
      _ = _ := by
          rw [stepCycle, undivided, wraps]; rfl
  have closed : closedAt s mean n = setFlight (.cycle true 0 (n + 1) false) (setSetpoint (mean * 256)
      { stepped s with program := { (stepped s).program with halfStep := false } }) := rfl
  rw [before, closed]
  exact closeCycle_driftStands g mean count n watch m _

/-- Settles O36: the period leaves the drift watch as the cycle close makes it, and the close works each record by its
state. -/
theorem cycleCloseWorksTheDriftRecords : Obligations.CycleCloseWorksTheDriftRecords := by
  intro s g rest mean a q c p n m hp hf paced starved full queue body flight last
  have stands := (beforeLoop_of_lastPhase hp hf paced starved full queue body flight last).trans
    (controlPeriod_driftStands s)
  obtain ⟨worked, strain, records⟩ := cycleClose_strain ⟨g.seq, n + 1, m⟩ (closedAt s mean n)
  replace strain := stands.strain.trans strain
  refine ⟨controlPeriod s, rfl, by rw [strain], by rw [strain]; rfl, by rw [strain]; rfl,
    stands.settings.trans (cycleClose_settings _ _), stands.told (cycleClose_told _ _), fun i r w hr hw => ?_⟩
  replace hw : w = if watchedChannel s.settings.strain[i] then closeRecord s.settings m r else r := by
    rw [hw, hr, strain]
    exact records i
  refine ⟨fun unwatched => ?_, fun watched => ?_⟩
  · rw [hw, unwatched]; rfl
  rw [watched, if_pos rfl] at hw
  subst hw
  refine ⟨closeRecord_of_empty m, fun hi lo cycle range hrange => ?_⟩
  subst hrange
  refine ⟨?_, ?_, ?_, ?_⟩ <;> rintro rfl
  · exact closeRecord_of_interrupted cycle
  all_goals rw [closeRecord_of_full cycle]
  · exact useRange_frame _ _ _
  · intro gathering
    let x := fullCycle (hi - lo).toNat r
    obtain ⟨sum, gathered, lastDrift⟩ := useRange_sums s.settings (hi - lo).toNat (r := x) gathering
    exact ⟨sum, gathered, lastDrift, useRange_gathers _ (r := x) gathering, useRange_refers _ (r := x) gathering⟩
  · rintro watching ref href d rfl
    rw [useRange_watches _ (r := fullCycle (hi - lo).toNat r) watching href]
    exact ⟨watching, href, rfl, rfl⟩

end Sys2Proof.DriftRecords

/-! ## The crack watch's detector sample by sample (R167 to R171) -/

namespace Sys2Proof.CrackWatch

open Sys2Proof Sys2Proof.Machine Sys2Proof.Laws Sys2Proof.Claims Sys2Proof.Postures

/-! ### A hit in progress takes a sample (R169) -/

section
variable {cfg : CrackSettings} {amp : Nat} (h : Hit)

theorem extendHit_above (crossed : cfg.threshold ≤ amp) : extendHit cfg.threshold amp h =
    { h with
      duration := h.duration + 1, sinceCrossing := 0, below := false
      count := if h.below then min (h.count + 1) 65535 else h.count
      peak := max h.peak amp, rise := if h.peak < amp then h.duration else h.rise } :=
  if_pos crossed

theorem extendHit_below (below : amp < cfg.threshold) : extendHit cfg.threshold amp h =
    { h with duration := h.duration + 1, sinceCrossing := h.sinceCrossing + 1, below := true } :=
  if_neg (Nat.not_le.mpr below)

theorem extendHit_duration (threshold : Nat) : (extendHit threshold amp h).duration = h.duration + 1 := by
  unfold extendHit
  split <;> rfl

/-- The hit definition time runs out at a sample below the threshold (R169). -/
theorem hitEnds_at_hdt (below : amp < cfg.threshold) (out : cfg.hdt ≤ h.sinceCrossing + 1) :
    hitEnds cfg amp (extendHit cfg.threshold amp h) = some false := by
  rw [extendHit_below h below]
  exact if_pos ⟨below, out⟩

/-- A sample within the hit definition time ends a hit by its length alone (R169). -/
theorem hitEnds_within_hdt (within : amp < cfg.threshold → h.sinceCrossing + 1 < cfg.hdt) :
    hitEnds cfg amp (extendHit cfg.threshold amp h) = if 65535 ≤ h.duration + 1 then some true else none := by
  have time : ¬(amp < cfg.threshold ∧ cfg.hdt ≤ (extendHit cfg.threshold amp h).sinceCrossing) := by
    rintro ⟨below, out⟩
    rw [extendHit_below h below] at out
    exact absurd out (Nat.not_le.mpr (within below))
  rw [hitEnds, if_neg time, extendHit_duration]
  rfl

theorem hitEnds_none (short : h.duration + 1 < 65535)
    (within : amp < cfg.threshold → h.sinceCrossing + 1 < cfg.hdt) :
    hitEnds cfg amp (extendHit cfg.threshold amp h) = none := by
  rw [hitEnds_within_hdt h within, if_neg (Nat.not_le.mpr short)]

theorem hitEnds_truncated (long : 65535 ≤ h.duration + 1)
    (within : amp < cfg.threshold → h.sinceCrossing + 1 < cfg.hdt) :
    hitEnds cfg amp (extendHit cfg.threshold amp h) = some true := by
  rw [hitEnds_within_hdt h within, if_pos long]

end

/-! ### An envelope sample, by the detector state (R166, R167, R170, R171) -/

section
variable {i : Fin 8} {v : Byte} {s : State}

theorem takeEnvelope_not_enabled (off : s.settings.crack[i].enable = false) : takeEnvelope i v s = s :=
  if_neg (Bool.not_eq_true _ ▸ off)

/-- The fault code takes a working detector to FAULTED, with a notice (R171). -/
theorem faultSensor_working (working : s.crack.channels[i].detector ≠ .disabled)
    (sound : s.crack.channels[i].detector ≠ .faulted) :
    ∃ lost, faultSensor i s = pushNotice (.crackSensorFault i s.time lost) (setDetector i .faulted s) := by
  cases d : s.crack.channels[i].detector with
  | disabled => exact absurd d working
  | faulted => exact absurd d sound
  | quiet | lockout => exact ⟨false, by simp only [faultSensor, d]⟩
  | inHit => exact ⟨true, by simp only [faultSensor, d]⟩

theorem takeEnvelope_faulted (d : s.crack.channels[i].detector = .faulted) : takeEnvelope i v s = s := by
  simp only [takeEnvelope, faultSensor, d, ite_self]

variable (on : s.settings.crack[i].enable = true)
include on

theorem takeEnvelope_faultCode : takeEnvelope i 255#8 s = faultSensor i s := by
  rw [takeEnvelope, if_pos on, if_pos rfl]

variable (value : v ≠ 255#8)
include value

theorem takeEnvelope_quiet (d : s.crack.channels[i].detector = .quiet) : takeEnvelope i v s =
    if s.settings.crack[i].threshold ≤ amplitudeOf v then setDetector i (.inHit (startHit (amplitudeOf v) s)) s
    else s := by
  rw [takeEnvelope, if_pos on, if_neg value]
  simp only [d]

theorem takeEnvelope_lockout {left : Nat} (d : s.crack.channels[i].detector = .lockout left) : takeEnvelope i v s =
    setDetector i (if left ≤ 1 then .quiet else .lockout (left - 1)) s := by
  rw [takeEnvelope, if_pos on, if_neg value]
  simp only [d]

theorem takeEnvelope_inHit {h : Hit} (d : s.crack.channels[i].detector = .inHit h) :
    takeEnvelope i v s = stepHit i (amplitudeOf v) h s := by
  rw [takeEnvelope, if_pos on, if_neg value]
  simp only [d]

end

theorem stepHit_goes_on {i : Fin 8} {amp : Nat} {h : Hit} {s : State}
    (going : hitEnds s.settings.crack[i] amp (extendHit s.settings.crack[i].threshold amp h) = none) :
    stepHit i amp h s = setDetector i (.inHit (extendHit s.settings.crack[i].threshold amp h)) s := by
  simp only [stepHit, going]

/-! ### HIT_END and LOCKOUT_END are the envelope sample at which they fall (R170; the model's choice, log 4) -/

section
variable {i : Fin 8} {v : Byte} {s : State}

theorem endsLockout_iff : endsLockout i v s = true ↔ s.settings.crack[i].enable = true ∧ v ≠ 255#8 ∧
    ∃ left, s.crack.channels[i].detector = .lockout left ∧ left ≤ 1 := by
  unfold endsLockout
  generalize s.crack.channels[i].detector = d
  cases d <;> simp [and_assoc]

theorem endsHit_iff : endsHit i v s = true ↔ s.settings.crack[i].enable = true ∧ v ≠ 255#8 ∧
    ∃ h, s.crack.channels[i].detector = .inHit h ∧ hitEnds s.settings.crack[i] (amplitudeOf v)
      (extendHit s.settings.crack[i].threshold (amplitudeOf v) h) ≠ none := by
  unfold endsHit
  generalize s.crack.channels[i].detector = d
  cases d <;> simp [and_assoc, Option.isSome_iff_ne_none]

theorem exec_envelopeSample : exec (.envelopeSample i v) s = .next (takeEnvelope i v s) := rfl

theorem exec_lockoutEnd_ends (ends : endsLockout i v s = true) :
    exec (.lockoutEnd i v) s = .next (takeEnvelope i v s) :=
  congrArg Host.Outcome.next (if_pos ends)

theorem exec_lockoutEnd_idle (idle : ¬endsLockout i v s = true) : exec (.lockoutEnd i v) s = .next s :=
  congrArg Host.Outcome.next (if_neg idle)

theorem exec_hitEnd_ends (ends : endsHit i v s = true) : exec (.hitEnd i v) s = .next (takeEnvelope i v s) :=
  congrArg Host.Outcome.next (if_pos ends)

theorem exec_hitEnd_idle (idle : ¬endsHit i v s = true) : exec (.hitEnd i v) s = .next s :=
  congrArg Host.Outcome.next (if_neg idle)

end

/-- Settles O46: the sample by the detector state, then HIT_END and LOCKOUT_END where nothing ends. -/
theorem envelopeSampleMovesTheDetector : Obligations.EnvelopeSampleMovesTheDetector := by
  rintro i v s amp cfg detector rfl (rfl : amp = amplitudeOf v) writes
  have detects : ∀ d, detector d = setDetector i d s := writes
  simp only [detects, exec_envelopeSample]
  refine ⟨fun off => by rw [takeEnvelope_not_enabled off], fun on => ⟨?_, fun value => ⟨?_, ?_, ?_, ?_⟩, ?_⟩, ?_, ?_⟩
  · rintro rfl working sound
    obtain ⟨lost, faults⟩ := faultSensor_working working sound
    exact ⟨_, rfl, by rw [takeEnvelope_faultCode on, faults]; rfl⟩
  · intro d below
    rw [takeEnvelope_quiet on value d, if_neg (Nat.not_le.mpr below)]
  · intro d crossed
    rw [takeEnvelope_quiet on value d, if_pos crossed]
    rfl
  · intro left d
    refine ⟨fun more => ?_, fun last => ?_⟩
    · rw [takeEnvelope_lockout on value d, if_neg (Nat.not_le.mpr more)]
    · rw [exec_lockoutEnd_ends (endsLockout_iff.mpr ⟨on, value, left, d, last⟩), takeEnvelope_lockout on value d,
        if_pos last]
      exact ⟨rfl, rfl⟩
  · intro h d short
    rw [takeEnvelope_inHit on value d]
    refine ⟨fun crossed => ?_, fun below soon => ?_⟩
    · rw [stepHit_goes_on (hitEnds_none h short fun below => absurd crossed (Nat.not_le.mpr below)),
        extendHit_above h crossed]
    · rw [stepHit_goes_on (hitEnds_none h short fun _ => soon), extendHit_below h below]
  · intro d
    rw [takeEnvelope_faulted d]
  · intro runs
    refine exec_lockoutEnd_idle fun ends => ?_
    obtain ⟨on, value, left, d, last⟩ := endsLockout_iff.mp ends
    exact absurd (runs on value left d) (Nat.not_lt.mpr last)
  · intro goes
    refine exec_hitEnd_idle fun ends => ?_
    obtain ⟨on, value, h, d, ended⟩ := endsHit_iff.mp ends
    obtain ⟨short, within⟩ := goes on value h d
    exact ended (hitEnds_none h short within)

end Sys2Proof.CrackWatch

/-! ## The sample that ends a hit (R169, R170, R172 to R175, R178 to R180, R182) -/

namespace Sys2Proof.CrackWatch

open Sys2Proof Sys2Proof.Machine Sys2Proof.Laws Sys2Proof.Claims Sys2Proof.Postures
open Sys2Proof.LoadProgram

/-! ### The alarm latch under the trips of one hit (R179, R180) -/

/-- The kind stands in the latch's kinds set (R179). -/
def hasKind (a : Alarm) : Trip → Bool
  | .burst => a.burst
  | .rate => a.rate
  | .felicity => a.felicity

/-- A set latch that takes further trips: it stays set, with its first kind and time, and loses no kind (R179). -/
structure Grows (a b : Alarm) : Prop where
  latched : b.latched = true
  firstKind : b.firstKind = a.firstKind
  firstTime : b.firstTime = a.firstTime
  kinds : ∀ k, hasKind a k = true → hasKind b k = true
  condition : a.condition = true → b.condition = true

/-- The latch shows a trip of the kind: it is set with the kind, and its condition is true where the kind has one
(R179, R180). -/
structure Shows (k : Trip) (a : Alarm) : Prop where
  latched : a.latched = true
  kind : hasKind a k = true
  condition : k ≠ .burst → a.condition = true

theorem Grows.trans {a b c : Alarm} (h : Grows a b) (g : Grows b c) : Grows a c where
  latched := g.latched
  firstKind := g.firstKind.trans h.firstKind
  firstTime := g.firstTime.trans h.firstTime
  kinds k := g.kinds k ∘ h.kinds k
  condition := g.condition ∘ h.condition

theorem Shows.grows {k : Trip} {a b : Alarm} (h : Shows k a) (g : Grows a b) : Shows k b :=
  ⟨g.latched, g.kinds k h.kind, g.condition ∘ h.condition⟩

section
variable (mode : Mode) (now : BitVec 32) (a : Alarm) (k : Trip)

theorem tripAlarm_latched : (tripAlarm mode now a k).latched = true := by
  cases k <;> cases h : a.latched <;> simp [tripAlarm, addKind, h]

theorem tripAlarm_condition : (tripAlarm mode now a k).condition = (a.condition || decide (k ≠ .burst)) := by
  cases k <;> unfold tripAlarm <;> split <;> rfl

/-- A clear latch takes the kind as its first, and a set one has its first kind already (R179). -/
theorem tripAlarm_firstKind : (tripAlarm mode now a k).firstKind = if a.latched then a.firstKind else some k := by
  cases k <;> unfold tripAlarm <;> split <;> rfl

theorem tripAlarm_firstTime : (tripAlarm mode now a k).firstTime = if a.latched then a.firstTime else some now := by
  cases k <;> unfold tripAlarm <;> split <;> rfl

/-- The kind alone on a clear latch, and one kind more on a set one (R179). -/
theorem hasKind_tripAlarm (j : Trip) :
    hasKind (tripAlarm mode now a k) j = (decide (j = k) || (a.latched && hasKind a j)) := by
  cases h : a.latched <;> cases j <;> cases k <;> simp [tripAlarm, addKind, hasKind, h]

theorem tripAlarm_shows : Shows k (tripAlarm mode now a k) where
  latched := tripAlarm_latched mode now a k
  kind := by rw [hasKind_tripAlarm, decide_eq_true rfl, Bool.true_or]
  condition other := by rw [tripAlarm_condition, decide_eq_true other, Bool.or_true]

variable {a}

theorem tripAlarm_grows (set : a.latched = true) : Grows a (tripAlarm mode now a k) where
  latched := tripAlarm_latched mode now a k
  firstKind := by rw [tripAlarm_firstKind, if_pos set]
  firstTime := by rw [tripAlarm_firstTime, if_pos set]
  kinds j held := by rw [hasKind_tripAlarm, set, held, Bool.true_and, Bool.or_true]
  condition held := by rw [tripAlarm_condition, held, Bool.true_or]

theorem tripAlarms_grows (ks : List Trip) (set : a.latched = true) : Grows a (tripAlarms mode now ks a) := by
  induction ks generalizing a with
  | nil => exact ⟨set, rfl, rfl, fun _ => id, id⟩
  | cons k ks ih =>
    have first := tripAlarm_grows mode now k set
    exact first.trans (ih first.latched)

/-- The first trip on a clear latch names the latch's first kind and time (R179). -/
theorem tripAlarms_first (ks : List Trip) (clear : a.latched = false) :
    (tripAlarms mode now (k :: ks) a).firstKind = some k ∧ (tripAlarms mode now (k :: ks) a).firstTime = some now := by
  have rest := tripAlarms_grows mode now ks (tripAlarm_shows mode now a k).latched
  have unset : ¬a.latched = true := by simp [clear]
  exact ⟨rest.firstKind.trans ((tripAlarm_firstKind mode now a k).trans (if_neg unset)),
    rest.firstTime.trans ((tripAlarm_firstTime mode now a k).trans (if_neg unset))⟩

/-- Every trip of the hit shows on the latch behind it. -/
theorem tripAlarms_shows {k : Trip} {ks : List Trip} (mem : k ∈ ks) (a : Alarm) :
    Shows k (tripAlarms mode now ks a) := by
  induction ks generalizing a with
  | nil => exact absurd mem List.not_mem_nil
  | cons j ks ih =>
    obtain rfl | later := List.mem_cons.mp mem
    · have first := tripAlarm_shows mode now a k
      exact first.grows (tripAlarms_grows mode now ks first.latched)
    · exact ih later (tripAlarm mode now a j)

end

/-! ### Which trips a hit brings (R178) -/

section
variable {cfg : CrackSettings} {peak : Nat} {felicity : Bool} {c : CrackChannel}

/-- The trips of a hit that raises the counts of the channel. -/
abbrev hitTrips (cfg : CrackSettings) (peak : Nat) (felicity : Bool) (c : CrackChannel) : List Trip :=
  tripsOf cfg peak felicity c (countHit felicity c)

theorem countHit_windowHits : (countHit felicity c).windowHits = min (c.windowHits + 1) 65535 := rfl

theorem countHit_windowFelicity : (countHit felicity c).windowFelicity =
    if felicity then min (c.windowFelicity + 1) 65535 else c.windowFelicity := rfl

theorem hitTrips_burst {level : Nat} (on : cfg.burst = some level) (reached : level ≤ peak) :
    ∃ ks, hitTrips cfg peak felicity c = .burst :: ks := by
  simp only [hitTrips, tripsOf, on, if_pos reached]
  exact ⟨_, rfl⟩

theorem hitTrips_rate (on : cfg.rateLimit ≠ 0) (reached : c.windowHits + 1 = cfg.rateLimit)
    (room : c.windowHits < 65535) : .rate ∈ hitTrips cfg peak felicity c := by
  have counted : (countHit felicity c).windowHits = cfg.rateLimit := by
    rw [countHit_windowHits]; omega
  have before : c.windowHits ≠ cfg.rateLimit := by omega
  rw [hitTrips, tripsOf, if_pos ⟨on, counted, before⟩]
  simp

theorem hitTrips_felicity (on : cfg.felicityLimit ≠ 0) (reached : c.windowFelicity + 1 = cfg.felicityLimit)
    (room : c.windowFelicity < 65535) : .felicity ∈ hitTrips cfg peak true c := by
  have counted : (countHit true c).windowFelicity = cfg.felicityLimit := by
    rw [countHit_windowFelicity, if_pos rfl]; omega
  have before : c.windowFelicity ≠ cfg.felicityLimit := by omega
  rw [hitTrips, tripsOf, if_pos (c := cfg.felicityLimit ≠ 0 ∧ _) ⟨on, rfl, counted, before⟩]
  simp

/-- A count that the hit does not bring to its limit trips nothing, the count that stands at its end value included
(R178). -/
theorem hitTrips_none (hits : c.windowHits ≤ 65535) (felicities : c.windowFelicity ≤ 65535) (burst : cfg.burst = none)
    (rate : cfg.rateLimit ≠ c.windowHits + 1) (limit : cfg.felicityLimit ≠ c.windowFelicity + 1) :
    hitTrips cfg peak felicity c = [] := by
  have noRate : ¬(cfg.rateLimit ≠ 0 ∧ (countHit felicity c).windowHits = cfg.rateLimit ∧
      c.windowHits ≠ cfg.rateLimit) := by
    rw [countHit_windowHits]; omega
  have noFelicity : ¬(cfg.felicityLimit ≠ 0 ∧ felicity = true ∧
      (countHit felicity c).windowFelicity = cfg.felicityLimit ∧ c.windowFelicity ≠ cfg.felicityLimit) := by
    rintro ⟨-, flagged, counted, before⟩
    rw [countHit_windowFelicity, if_pos flagged] at counted
    omega
  simp only [hitTrips, tripsOf, burst, if_neg noRate, if_neg noFelicity, List.append_nil]

end

/-! ### The record stored and its felicity flag (R172, R173, R175) -/

theorem felicityOf_extendHit (st : Settings) (threshold amp : Nat) (h : Hit) :
    felicityOf st (extendHit threshold amp h) = felicityOf st h := by
  unfold extendHit
  split <;> rfl

/-- The felicity flag of a hit is that of its start, whatever samples it took (R168, R173). -/
theorem felicityOf_extended {st : Settings} {h : Hit} {felicity : Bool} (threshold amp : Nat)
    (flag : felicity = true ↔ h.load ≠ -8388608 ∧ (st.felicityMinPeak : Int) ≤ h.peakLoad ∧
      h.load * 256 < st.felicityRatio * h.peakLoad) : felicityOf st (extendHit threshold amp h) = felicity := by
  rw [felicityOf_extendHit, Bool.eq_iff_iff, flag, felicityOf, Bool.and_eq_true, Bool.and_eq_true, decide_eq_true_iff,
    decide_eq_true_iff, decide_eq_true_iff, and_assoc]
  rfl

/-- What the storing of a hit record leaves of the state around the FIFO (R175). -/
structure AroundStore (s t : State) : Prop where
  settings : t.settings = s.settings
  strain : t.strain = s.strain
  channels : t.crack.channels = s.crack.channels

section
variable (i : Fin 8) (h : Hit) (felicity truncated : Bool) (s : State)

theorem storeHit_around : AroundStore s (storeHit i h felicity truncated s) := by
  obtain ⟨_, _, _, e⟩ := Survey.storeHit_eq i h felicity truncated s
  rw [e]
  exact ⟨rfl, rfl, rfl⟩

variable {s}

theorem storeHit_room (room : s.crack.fifo.length < 64) : (storeHit i h felicity truncated s).crack.gap = 0 ∧
    (storeHit i h felicity truncated s).crack.fifo =
      s.crack.fifo ++ [hitRecord i h felicity truncated s.crack.gap] := by
  rw [storeHit, if_pos (show _ < Config.hitPlaces from room)]
  simp only
  split <;> exact ⟨rfl, rfl⟩

theorem storeHit_full (full : 64 ≤ s.crack.fifo.length) :
    (storeHit i h felicity truncated s).crack.fifo = s.crack.fifo ∧
    (storeHit i h felicity truncated s).crack.gap = min (s.crack.gap + 1) 255 := by
  rw [storeHit, if_neg (show ¬_ < Config.hitPlaces from Nat.not_lt.mpr full)]
  exact ⟨rfl, rfl⟩

end

/-! ### The work with an ended hit (R174) -/

/-- The channel behind a hit that ended: its counts raised and its alarm latch tripped. -/
def finishedChannel (st : Settings) (i : Fin 8) (now : BitVec 32) (h : Hit) (c : CrackChannel) : CrackChannel :=
  { countHit (felicityOf st h) c with
    alarm := tripAlarms st.crack[i].mode now (hitTrips st.crack[i] h.peak (felicityOf st h) c) c.alarm }

section
variable {st : Settings} {i : Fin 8} {now : BitVec 32} {h : Hit} {c : CrackChannel}

/-- A burst trip, the first of its hit (R178, R179). -/
theorem finishedChannel_burst {level : Nat} (on : st.crack[i].burst = some level) (reached : level ≤ h.peak) :
    Shows .burst (finishedChannel st i now h c).alarm ∧
    (c.alarm.latched = false → (finishedChannel st i now h c).alarm.firstKind = some .burst ∧
      (finishedChannel st i now h c).alarm.firstTime = some now) := by
  obtain ⟨ks, trips⟩ := hitTrips_burst (felicity := felicityOf st h) (c := c) on reached
  rw [finishedChannel, trips]
  exact ⟨tripAlarms_shows _ _ List.mem_cons_self _, tripAlarms_first _ _ _ ks⟩

theorem finishedChannel_rate (on : st.crack[i].rateLimit ≠ 0) (reached : c.windowHits + 1 = st.crack[i].rateLimit)
    (room : c.windowHits < 65535) : Shows .rate (finishedChannel st i now h c).alarm :=
  tripAlarms_shows _ _ (hitTrips_rate on reached room) _

theorem finishedChannel_felicity (on : st.crack[i].felicityLimit ≠ 0) (flagged : felicityOf st h = true)
    (reached : c.windowFelicity + 1 = st.crack[i].felicityLimit) (room : c.windowFelicity < 65535) :
    Shows .felicity (finishedChannel st i now h c).alarm :=
  tripAlarms_shows _ _ (flagged ▸ hitTrips_felicity on reached room) _

theorem finishedChannel_untripped (hits : c.windowHits ≤ 65535) (felicities : c.windowFelicity ≤ 65535)
    (burst : st.crack[i].burst = none) (rate : st.crack[i].rateLimit ≠ c.windowHits + 1)
    (limit : st.crack[i].felicityLimit ≠ c.windowFelicity + 1) :
    (finishedChannel st i now h c).alarm = c.alarm := by
  rw [finishedChannel, hitTrips_none hits felicities burst rate limit]
  rfl

end

/-- The counts raised and the record stored, before the trips are tested. -/
def hitStored (i : Fin 8) (h : Hit) (truncated : Bool) (s : State) : State :=
  storeHit i h (felicityOf s.settings h) truncated
    (setCrackChannel i (countHit (felicityOf s.settings h) s.crack.channels[i]) s)

section
variable (i : Fin 8) (h : Hit) (truncated : Bool) (s : State)

theorem finishHit_eq : finishHit i h truncated s = evalCrack true i
    (pushNotices (alarmNotice i s.time s.crack.channels[i].alarm
        (hitTrips s.settings.crack[i] h.peak (felicityOf s.settings h) s.crack.channels[i]))
      (setCrackChannel i (finishedChannel s.settings i s.time h s.crack.channels[i]) (hitStored i h truncated s))) :=
  rfl

/-- The notice and the evaluation behind the tripped channel keep what the posture controller does not own. -/
theorem finishHit_keeps : Keeps
    (setCrackChannel i (finishedChannel s.settings i s.time h s.crack.channels[i]) (hitStored i h truncated s))
    (finishHit i h truncated s) :=
  (pushNotices_keeps _ _).trans (reportWith_keeps _ _ _ _)

theorem finishHit_settings : (finishHit i h truncated s).settings = s.settings :=
  (finishHit_keeps i h truncated s).settings.trans (storeHit_around ..).settings

theorem finishHit_strain : (finishHit i h truncated s).strain = s.strain :=
  (finishHit_keeps i h truncated s).strain.trans (storeHit_around ..).strain

theorem finishHit_channels : (finishHit i h truncated s).crack.channels =
    s.crack.channels.set i (finishedChannel s.settings i s.time h s.crack.channels[i]) := by
  calc (finishHit i h truncated s).crack.channels
    _ = (hitStored i h truncated s).crack.channels.set i _ :=
        congrArg Crack.channels (finishHit_keeps i h truncated s).crack
    _ = (s.crack.channels.set i _).set i _ := by
        rw [hitStored, (storeHit_around ..).channels]; rfl
    _ = s.crack.channels.set i _ := Vector.set_set ..

/-- The CRACK condition is that of the channel behind the hit (R182). -/
theorem finishHit_condition : ((finishHit i h truncated s).entry (.crack i)).condition =
    crackCondition s.settings.crack[i] (finishHit i h truncated s).crack.channels[i] := by
  rw [← finishHit_settings i h truncated s, finishHit_eq]
  generalize pushNotices _ _ = u
  have k : Keeps u (evalCrack true i u) := reportWith_keeps _ _ _ _
  rw [k.settings, k.crack]
  exact reportWith_condition (by simp) (by simp) _ _ _

variable {s}

theorem finishHit_room (room : s.crack.fifo.length < 64) : (finishHit i h truncated s).crack.gap = 0 ∧
    (finishHit i h truncated s).crack.fifo =
      s.crack.fifo ++ [hitRecord i h (felicityOf s.settings h) truncated s.crack.gap] := by
  rw [(finishHit_keeps i h truncated s).crack]
  exact storeHit_room i h _ truncated (s := setCrackChannel i _ s) room

theorem finishHit_full (full : 64 ≤ s.crack.fifo.length) :
    (finishHit i h truncated s).crack.fifo = s.crack.fifo ∧
    (finishHit i h truncated s).crack.gap = min (s.crack.gap + 1) 255 := by
  rw [(finishHit_keeps i h truncated s).crack]
  exact storeHit_full i h _ truncated (s := setCrackChannel i _ s) full

end

/-! ### The state behind the sample (R169, R170) -/

/-- The detector moved on to LOCKOUT or QUIET, and then the hit worked (R170, R174). -/
def hitEnded (i : Fin 8) (h : Hit) (truncated : Bool) (s : State) : State :=
  finishHit i h truncated (setDetector i (afterHit s.settings.crack[i]) s)

/-- The channel in the state it enters behind its hit (R170). -/
def detectorMoved (i : Fin 8) (s : State) : CrackChannel :=
  { s.crack.channels[i] with detector := afterHit s.settings.crack[i] }

/-- HIT_END and the envelope sample answer the same state where the sample ends the hit. -/
theorem exec_ending_sample {i : Fin 8} {v : Byte} {s : State} {h : Hit} {truncated : Bool}
    (on : s.settings.crack[i].enable = true) (value : v ≠ 255#8) (d : s.crack.channels[i].detector = .inHit h)
    (ends : hitEnds s.settings.crack[i] (amplitudeOf v) (extendHit s.settings.crack[i].threshold (amplitudeOf v) h) =
      some truncated) :
    exec (.hitEnd i v) s =
      .next (hitEnded i (extendHit s.settings.crack[i].threshold (amplitudeOf v) h) truncated s) ∧
    exec (.envelopeSample i v) s =
      .next (hitEnded i (extendHit s.settings.crack[i].threshold (amplitudeOf v) h) truncated s) := by
  have taken : takeEnvelope i v s =
      hitEnded i (extendHit s.settings.crack[i].threshold (amplitudeOf v) h) truncated s := by
    rw [takeEnvelope_inHit on value d]
    simp only [stepHit, ends, hitEnded]
  have ending : endsHit i v s = true := endsHit_iff.mpr ⟨on, value, h, d, ends ▸ Option.some_ne_none _⟩
  rw [exec_hitEnd_ends ending, exec_envelopeSample, taken]
  exact ⟨rfl, rfl⟩

section
variable (i : Fin 8) (h : Hit) (truncated : Bool) (s : State)

theorem hitEnded_settings : (hitEnded i h truncated s).settings = s.settings := finishHit_settings ..

theorem hitEnded_strain : (hitEnded i h truncated s).strain = s.strain := finishHit_strain ..

theorem hitEnded_channels : (hitEnded i h truncated s).crack.channels =
    s.crack.channels.set i (finishedChannel s.settings i s.time h (detectorMoved i s)) := by
  have moved : (setDetector i (afterHit s.settings.crack[i]) s).crack.channels[i] = detectorMoved i s := by
    rw [setDetector, setCrackChannel_getElem, if_pos rfl]; rfl
  rw [hitEnded, finishHit_channels, moved]
  exact Vector.set_set ..

theorem hitEnded_channel : (hitEnded i h truncated s).crack.channels[i] =
    finishedChannel s.settings i s.time h (detectorMoved i s) := by
  rw [hitEnded_channels]
  exact Vector.getElem_set_self ..

theorem hitEnded_condition : ((hitEnded i h truncated s).entry (.crack i)).condition =
    crackCondition s.settings.crack[i] (hitEnded i h truncated s).crack.channels[i] := finishHit_condition ..

variable {s}

theorem hitEnded_room (room : s.crack.fifo.length < 64) : (hitEnded i h truncated s).crack.gap = 0 ∧
    (hitEnded i h truncated s).crack.fifo =
      s.crack.fifo ++ [hitRecord i h (felicityOf s.settings h) truncated s.crack.gap] :=
  finishHit_room i h truncated (s := setDetector i _ s) room

theorem hitEnded_full (full : 64 ≤ s.crack.fifo.length) : (hitEnded i h truncated s).crack.fifo = s.crack.fifo ∧
    (hitEnded i h truncated s).crack.gap = min (s.crack.gap + 1) 255 :=
  finishHit_full i h truncated (s := setDetector i _ s) full

end

/-- The record of a hit with its last sample, on either side of the threshold (R169, R172). -/
theorem hitRecord_extendHit (i : Fin 8) (threshold amp : Nat) (h : Hit) (felicity truncated : Bool) (gap : Nat) :
    hitRecord i (extendHit threshold amp h) felicity truncated gap =
      ⟨i, h.startTime, h.duration + 1, if threshold ≤ amp then max h.peak amp else h.peak,
        if threshold ≤ amp ∧ h.peak < amp then h.duration else h.rise,
        if threshold ≤ amp ∧ h.below = true then min (h.count + 1) 65535 else h.count, h.load, felicity, truncated,
        gap⟩ := by
  unfold extendHit
  by_cases crossed : threshold ≤ amp <;> simp [crossed, hitRecord, saturate]

/-- Settles O47: both ends of a hit are the one work of R174 with the hit that took its last sample. -/
theorem hitEndStoresTheHit : Obligations.HitEndStoresTheHit := by
  constructor
  · rintro i v s h cfg c felicity rfl rfl on value d (below : amplitudeOf v < _) out flag
    obtain ⟨ended, sampled⟩ := exec_ending_sample on value d (hitEnds_at_hdt h below out)
    have flagged := felicityOf_extended s.settings.crack[i].threshold (amplitudeOf v) flag
    rw [extendHit_below h below] at ended sampled flagged
    refine ⟨_, _, ended, sampled, rfl, ?_⟩
    generalize hx : ({ h with duration := _, sinceCrossing := _, below := true } : Hit) = x at flagged
    have peak : x.peak = h.peak := by rw [← hx]
    have condition := hitEnded_condition i x false s
    rw [hitEnded_channel] at condition ⊢
    refine ⟨hitEnded_channels .., hitEnded_settings .., hitEnded_strain .., rfl, rfl, by rw [← flagged]; rfl, rfl, rfl,
      fun room => ?_, hitEnded_full _ _ _, fun level burst reached => ?_, fun limit reached room => ?_,
      fun limit felicitous reached room => ?_, finishedChannel_untripped, condition⟩
    · rw [← flagged, ← hx]
      exact hitEnded_room _ _ _ room
    · obtain ⟨shows, first⟩ := finishedChannel_burst (now := s.time) (c := detectorMoved i s) burst (peak ▸ reached)
      exact ⟨shows.latched, shows.kind, first⟩
    · have shows := finishedChannel_rate (now := s.time) (h := x) (c := detectorMoved i s) limit reached room
      exact ⟨shows.latched, shows.kind, shows.condition (by decide)⟩
    · have shows := finishedChannel_felicity (now := s.time) (c := detectorMoved i s) limit (flagged.trans felicitous)
        reached room
      exact ⟨shows.latched, shows.kind, shows.condition (by decide)⟩
  · rintro i v s h cfg amp felicity rfl (rfl : amp = amplitudeOf v) on value d long within flag
    have soon : amplitudeOf v < s.settings.crack[i].threshold → h.sinceCrossing + 1 < s.settings.crack[i].hdt :=
      within.resolve_left ∘ Nat.not_le.mpr
    obtain ⟨ended, sampled⟩ := exec_ending_sample on value d (hitEnds_truncated h long soon)
    refine ⟨_, ended, sampled, ?_⟩
    rw [hitEnded_channel]
    refine ⟨rfl, rfl, hitEnded_full _ _ _, fun room => ?_⟩
    rw [← felicityOf_extended s.settings.crack[i].threshold (amplitudeOf v) flag, ← hitRecord_extendHit]
    exact hitEnded_room _ _ _ room

end Sys2Proof.CrackWatch

/-! ## Messages and commands of the station link (R185 to R187, R193, R194, R200, 10.2, 11.3) -/

namespace Sys2Proof.StationLink

open Sys2Proof Sys2Proof.Machine Sys2Proof.Laws Sys2Proof.Safety Sys2Proof.Claims Sys2Proof.Postures

/-! ### A host command's message (11.3, R186) -/

/-- A host command is a select in which the host sends its message, carried out by its own body (R185). -/
theorem exec_eq_sendCommand {c : Instr} {code : Byte} (hc : commandCode c = some code) (s : State) :
    exec c s = .next (sendCommand c (commandBody c) s) := by
  cases c <;> cases hc <;> rfl

theorem encodeMessage_eq_some {c : Instr} {m : List Byte} :
    encodeMessage c = some m ↔ ∃ code, commandCode c = some code ∧ message code (commandParams c) = m :=
  Option.map_eq_some_iff

theorem message_length (code : Byte) (params : List Byte) : (message code params).length = params.length + 5 := by
  simp [message, sealed]
  omega

/-- A message whose length its own field can say passes the first check of R186. -/
theorem parseMessage_message (code : Byte) {params : List Byte} (h : params.length + 5 < 65536) :
    parseMessage (message code params) = parseCommand code params := by
  obtain ⟨covered, check, -⟩ := sealed_split (bytes2 (BitVec.ofNat 16 (params.length + 5)) ++ code :: params)
  have length := message_length code params
  have field : (BitVec.ofNat 16 (params.length + 5)).toNat = params.length + 5 := by
    rw [BitVec.toNat_ofNat, Nat.mod_eq_of_lt h]
  rw [message] at length ⊢
  rw [parseMessage, covered, check, length]
  simp only [bytes2, List.cons_append, List.nil_append, join2_bytes, field]
  simp

/-- Every well-formed host command's parameters are read back: multi-byte fields and segments by their own lemmas,
single bytes and no parameters as they stand (11.3, R186). -/
theorem readBack (c : Instr) : ReadBack.Statement c := by
  cases c with
  | set n i v => exact ReadBack.set n i v
  | append seg inspect => exact ReadBack.append seg inspect
  | zero mask => exact ReadBack.zero mask
  | _ => intro _ code h; cases h <;> rfl

/-- The parameters of 11.3 take at most 13 bytes. -/
theorem commandParams_length_le {c : Instr} (h : ∀ k fs b, c ≠ .append (.unknown k fs) b) :
    (commandParams c).length ≤ 13 := by
  cases c with
  | append seg inspect =>
    cases seg with
    | unknown k fs => exact absurd rfl (h k fs inspect)
    | _ => simp [commandParams, segParams]
  | _ => simp [commandParams]

/-- Settles O6: the length and check fields by the message's parts, the parameters by their read-back. -/
theorem messageRoundTrip : Obligations.MessageRoundTrip := by
  intro c m wf known encoded
  obtain ⟨code, hc, rfl⟩ := encodeMessage_eq_some.mp encoded
  have short := commandParams_length_le known
  rw [parseMessage_message code (by omega), readBack c wf code hc]
  cases c with
  | append seg inspect =>
    cases seg with
    | unknown k fs => exact absurd rfl (known k fs inspect)
    | _ => rfl
  | _ => rfl

/-- The checks of R186 read a well-formed command's message as its body (11.3). -/
theorem messageBody_message {c : Instr} {code : Byte} (wf : c.wellFormed = true) (hc : commandCode c = some code)
    (h : (commandParams c).length + 5 < 65536) : messageBody (message code (commandParams c)) = commandBody c := by
  rw [messageBody, parseMessage_message code h, readBack c wf code hc]
  cases c with
  | append seg inspect => cases seg <;> rfl
  | _ => rfl

/-! ### A message that fails a check (R186) -/

/-- A code and parameters that name no command are answered FORMAT or UNKNOWN (R186). -/
theorem parseCommand_error {code : Byte} {params : List Byte} {resp : RespCode}
    (h : parseCommand code params = .error resp) : resp = .format ∨ resp = .unknown := by
  unfold parseCommand parseNone parseSegment at h
  repeat' split at h
  all_goals cases h <;> simp

theorem parseMessage_error {m : List Byte} {resp : RespCode} (h : parseMessage m = .error resp) :
    resp = .format ∨ resp = .unknown := by
  unfold parseMessage at h
  simp only at h
  split at h
  · split at h
    · cases h; exact .inl rfl
    · exact parseCommand_error h
  · cases h; exact .inl rfl

theorem failsChecks_iff {m : List Byte} :
    failsChecks m = true ↔ m ≠ [] ∧ ∃ resp, parseMessage m = .error resp := by
  unfold failsChecks
  cases parseMessage m <;> simp

/-- A message taken that is refused changes nothing but the link's exchange (R187). -/
theorem takeMessage_refused {m : List Byte} {resp : RespCode} {s : State}
    (h : (s.entry .hostSilent).condition = false) :
    takeMessage m (refuse resp) s =
      noteSent (List.replicate m.length 0#8) (composeResponse (m.getD 2 0#8) ⟨resp, []⟩ (restartSilence s)) := by
  rw [takeMessage, carryOut_quiet _ _ h]
  rfl

/-- Settles O7: bytes that pass the checks have their command's body, and the others are refused. -/
theorem messageByItsBytesActsAsItsCommand : Obligations.MessageByItsBytesActsAsItsCommand := by
  constructor
  · intro c m s wf encoded short
    obtain ⟨code, hc, rfl⟩ := encodeMessage_eq_some.mp encoded
    rw [message_length] at short
    rw [exec_eq_sendCommand hc, sendCommand, encoded, ← messageBody_message wf hc short]
    rfl
  · intro m s wf ready
    obtain ⟨bytes, resp, failed⟩ := failsChecks_iff.mp wf
    have taken : exec (.unknownCommand m) s = .next (exchange m (messageBody m) s) := rfl
    have body : messageBody m = refuse resp := by rw [messageBody, failed]
    rw [exchange_inCommand ready.1 bytes, body, takeMessage_refused ready.2] at taken
    exact ⟨resp, failed, parseMessage_error failed, _, taken, rfl, rfl, rfl, rfl⟩

/-! ### A command taken (R187) -/

/-- A host command taken in COMMAND phase (R185, R187). -/
theorem exec_inCommand {c : Instr} {code : Byte} (hc : commandCode c = some code) {s : State}
    (h : s.link.response = none) :
    exec c s = .next (takeMessage (message code (commandParams c)) (commandBody c) s) := by
  rw [exec_eq_sendCommand hc, sendCommand_inCommand hc h]

/-- Every message taken is answered, and the host-silence timer runs anew (R187, R193). -/
theorem takeMessage_answers (m : List Byte) (body : State → State × Reply) (s : State) :
    Answers (m.getD 2 0#8) (carryOut body s).2.code (carryOut body s).2.data (takeMessage m body s) := ⟨rfl, rfl⟩

theorem exec_answers {c : Instr} {code : Byte} (hc : commandCode c = some code) {s : State}
    (h : s.link.response = none) : ∃ t resp data, exec c s = .next t ∧ Answers code resp data t := by
  have answers := takeMessage_answers (message code (commandParams c)) (commandBody c) s
  rw [message_code] at answers
  exact ⟨_, _, _, exec_inCommand hc h, answers⟩

theorem hostSilent_fallen (s : State) : ((report .hostSilent false s).entry .hostSilent).condition = false :=
  reportWith_condition (by simp) (by simp) true false s

/-- The fall of HOST_SILENT's condition reported ahead of the message leaves its own without effect (R5, R194). -/
theorem takeMessage_report (m : List Byte) (body : State → State × Reply) (s : State) :
    takeMessage m body (report .hostSilent false s) = takeMessage m body s := by
  have same : carryOut body (report .hostSilent false s) = carryOut body s := carryOut_quiet _ _ (hostSilent_fallen s)
  rw [takeMessage, takeMessage, same]

/-- Settles O5: the fall reported first is the first step of R187 itself. -/
theorem everyCommandTakenIsAnswered : Obligations.EveryCommandTakenIsAnswered := by
  intro c code s hc h
  have free : (report .hostSilent false s).link.response = none := (report_keeps .hostSilent false s).response.trans h
  refine ⟨?_, hostSilent_fallen s, exec_answers hc h⟩
  rw [exec_inCommand hc h, exec_inCommand hc free, takeMessage_report]

/-! ### Where the table of 10.2 says BUSY -/

/-- The table of 10.2, command by command: each BUSY posture is one that its acceptance test refuses. -/
theorem commandBody_busy {c : Instr} {s : State} (h : busyIn s.posture c = true) :
    commandBody c s = (s, ⟨.busy, []⟩) := by
  have said {p : Posture} (hp : s.posture = p) : busyIn p c = true := hp ▸ h
  cases c with
  | set n i v => exact if_pos fun hp => by cases said hp
  | start => exact if_pos fun hp => by cases said hp
  | resume => exact if_pos fun hp => by cases said hp
  | hold =>
    show cmdHold s = _
    unfold cmdHold
    split
    iterate 2 next hp => cases said hp
    all_goals rfl
  | unload =>
    show cmdUnload s = _
    unfold cmdUnload
    split
    iterate 3 next hp => cases said hp
    all_goals rfl
  | clear =>
    show cmdClear s = _
    unfold cmdClear
    split
    iterate 3 next => rfl
    all_goals next hp => cases said hp
  | append seg inspect =>
    have late : s.posture = .unload ∨ s.posture = .safe := by
      cases hp : s.posture with
      | unload => exact .inl rfl
      | safe => exact .inr rfl
      | _ => cases said hp
    cases seg with
    | unknown k fs => obtain hp | hp := late <;> cases said hp
    | _ => exact if_pos late
  | zero mask =>
    show cmdZero mask s = _
    unfold cmdZero
    split
    iterate 2 next hp => cases said hp
    all_goals rfl
  | clearPeak =>
    show cmdClearPeak s = _
    unfold cmdClearPeak
    split
    iterate 2 next hp => cases said hp
    all_goals rfl
  | _ => cases hp : s.posture <;> cases said hp

/-- Settles O13: a refused body leaves the state as it is. -/
theorem busyCommandsChangeNothing : Obligations.BusyCommandsChangeNothing :=
  fun _ _ s ready hc busy =>
    answersOnly_of_body (r := ⟨.busy, []⟩) (exec_eq_sendCommand hc s) hc ready (commandBody_busy busy)

end Sys2Proof.StationLink

/-! ## SET, GET, the attention line and the host-silence timer (R188, R189, R191 to R194) -/

namespace Sys2Proof.StationLink

open Sys2Proof Sys2Proof.Machine Sys2Proof.Laws Sys2Proof.Safety Sys2Proof.Claims Sys2Proof.Postures

/-! ### SET (R188) -/

/-- A SET out of IDLE is refused with BUSY (R188, 10.2). -/
theorem cmdSet_busy {number index : Nat} {v : Int} {s : State} (hp : s.posture ≠ .idle) :
    cmdSet number index v s = (s, ⟨.busy, []⟩) := if_pos hp

/-- A SET that fails a test of R188 is refused with RANGE. -/
theorem cmdSet_range {number index : Nat} {v : Int} {s : State} (hp : s.posture = .idle)
    (ha : settingAllowed number index v s.settings = false) : cmdSet number index v s = (s, ⟨.range, []⟩) := by
  rw [cmdSet, if_neg (not_not_intro hp), if_pos ha]
  rfl

/-- A SET of the value held changes nothing (R188). -/
theorem cmdSet_held {number index : Nat} {v : Int} {s : State} (hp : s.posture = .idle)
    (ha : settingAllowed number index v s.settings = true) (hv : readSetting number index s.settings = v) :
    cmdSet number index v s = (s, ⟨.ok, be 4 v⟩) := by
  have applied : applySetting number index v s = s := if_pos hv
  rw [cmdSet, if_neg (not_not_intro hp), if_neg (by simp [ha]), applied, hv]
  rfl

/-- What a change brings to the other blocks writes no setting (R188). -/
theorem settingChanged_settings (number index : Nat) (s : State) :
    (settingChanged number index s).settings = s.settings := by
  have removed (why : ForgetReason) (gone : Peer → Bool) (u : State) :
      (removePeers why gone u).settings = u.settings := by
    rw [PeerTable.removePeers_eq]
    exact (LoadProgram.noticed_keeps _ _ _).settings
  have indexed {n : Nat} {f : Fin n → State → State} (h : ∀ i, (f i s).settings = s.settings) :
      (withIndex n index f s).settings = s.settings := by
    unfold withIndex
    split
    · exact h _
    · rfl
  unfold settingChanged
  split
  · exact removed _ _ _
  · exact removed _ _ s
  iterate 3 next => rfl
  iterate 3 next => exact (report_keeps _ _ s).settings
  · exact indexed fun i => (report_keeps _ _ s).settings
  · refine indexed fun i => ?_
    unfold lineModeChanged
    split <;> rfl
  · refine indexed fun i => ?_
    have turned : (strainTurned i s).settings = s.settings := (congrArg State.settings (strainTurned_eq i s)).trans rfl
    exact (report_keeps _ _ _).settings.trans ((report_keeps _ _ _).settings.trans turned)
  · rfl
  · exact indexed fun i => (report_keeps _ _ s).settings
  · refine indexed fun i => (report_keeps _ _ _).settings.trans ?_
    split <;> rfl
  · exact (report_keeps _ _ s).settings
  · exact indexed fun i => rfl
  · exact indexed fun i => (report_keeps _ _ s).settings
  · refine indexed fun i => ?_
    unfold crackModeChanged
    split <;> rfl
  · rfl

/-- A setting that is not re-evaluated moves nothing else when it changes (R188, R201). -/
theorem settingChanged_of_not_reevaluated {number : Nat} (h : number ∉ reevaluated) (index : Nat) (s : State) :
    settingChanged number index s = s := by
  unfold settingChanged
  split
  iterate 18 next => exact absurd (by decide) h
  rfl

/-- A SET of a new value writes it, answers it, and evaluates what hangs on it (R188). -/
theorem cmdSet_written {number index : Nat} {v : Int} {s : State} (hp : s.posture = .idle)
    (ha : settingAllowed number index v s.settings = true) (hn : readSetting number index s.settings ≠ v) :
    cmdSet number index v s =
      (settingChanged number index { s with settings := writeSetting number index v s.settings }, ⟨.ok, be 4 v⟩) := by
  obtain ⟨there, inRange⟩ := Survey.settingAllowed_range ha
  have applied : applySetting number index v s =
      settingChanged number index { s with settings := writeSetting number index v s.settings } := if_neg hn
  have reads : readSetting number index (applySetting number index v s).settings = v := by
    rw [applied, settingChanged_settings, Survey.readSetting_writeSetting there there, if_pos ⟨rfl, rfl⟩,
      Survey.storedValue_of_range inRange]
  rw [cmdSet, if_neg (not_not_intro hp), if_neg (by simp [ha]), reads, applied]
  rfl

/-- Settles O9: the value written reads as it is, and every other setting as before. -/
theorem setWritesItsSettingAlone : Obligations.SetWritesItsSettingAlone := by
  intro n i v s ready hp
  have taken : exec (.set n i v) s = .next (sendCommand (.set n i v) (cmdSet n.toNat i.toNat v.toInt) s) := rfl
  refine ⟨fun refused => answersOnly_of_body (r := ⟨.range, []⟩) taken rfl ready (cmdSet_range hp refused),
    fun allowed => ?_⟩
  by_cases held : readSetting n.toNat i.toNat s.settings = v.toInt
  · obtain ⟨t, run, answered, answers⟩ :=
      ServoIntake.exec_answered taken rfl ready (cmdSet_held hp allowed held) (sameHost_refl _)
    have same := answered.settings
    exact ⟨t, run, same ▸ held, fun m j _ _ => by rw [same], answered.posture.trans hp, answers,
      fun _ => ⟨answered.frame.trans (by rw [same]), answered.notices⟩⟩
  · have stays := settingChanged_staysIdle n.toNat i.toNat
      (s := { s with settings := writeSetting n.toNat i.toNat v.toInt s.settings }) hp
    obtain ⟨t, run, answered, answers⟩ :=
      ServoIntake.exec_answered taken rfl ready (cmdSet_written hp allowed held) stays.host
    obtain ⟨there, inRange⟩ := Survey.settingAllowed_range allowed
    have written := answered.settings.trans (settingChanged_settings _ _ _)
    refine ⟨t, run, ?_, fun m j exists' other => ?_, answered.posture.trans stays.posture, answers, fun alone => ?_⟩
    · rw [written, Survey.readSetting_writeSetting there there, if_pos ⟨rfl, rfl⟩, Survey.storedValue_of_range inRange]
    · rw [written, Survey.readSetting_writeSetting exists' there, if_neg fun k => other (Prod.ext k.1 k.2)]
    · rw [settingChanged_of_not_reevaluated (alone.resolve_right held)] at answered
      exact ⟨answered.frame.trans (by rw [written]), answered.notices⟩

/-! ### GET (R189) -/

theorem readSetting_of_answersOnly {c : Instr} {code : Byte} {resp : RespCode} {data : List Byte} {s : State}
    (h : AnswersOnly c code resp data s) :
    ∃ t, exec c s = .next t ∧ ∀ m j, readSetting m j t.settings = readSetting m j s.settings := by
  obtain ⟨t, run, frame, -⟩ := h
  exact ⟨t, run, fun m j => by rw [frame]⟩

/-- Settles O10: GET's body, and a SET refused with BUSY or RANGE, leave the state as it is. -/
theorem getAnswersTheValueHeld : Obligations.GetAnswersTheValueHeld := by
  intro n i s ready
  refine ⟨fun there => ?_, fun absent => ?_, fun v refused => ?_⟩
  · exact answersOnly_of_body (body := cmdGet n.toNat i.toNat) (r := ⟨.ok, _⟩) rfl rfl ready (if_pos there)
  · exact answersOnly_of_body (body := cmdGet n.toNat i.toNat) (r := ⟨.range, []⟩) rfl rfl ready
      (if_neg (by simp [absent]))
  · have taken : exec (.set n i v) s = .next (sendCommand (.set n i v) (cmdSet n.toNat i.toNat v.toInt) s) := rfl
    by_cases hp : s.posture = .idle
    · have range := cmdSet_range hp (refused.resolve_left (not_not_intro hp))
      obtain ⟨t, run, reads⟩ :=
        readSetting_of_answersOnly (answersOnly_of_body (r := ⟨.range, []⟩) taken rfl ready range)
      exact ⟨t, run, reads _ _⟩
    · obtain ⟨t, run, reads⟩ :=
        readSetting_of_answersOnly (answersOnly_of_body (r := ⟨.busy, []⟩) taken rfl ready (cmdSet_busy hp))
      exact ⟨t, run, reads _ _⟩

/-! ### The attention line (R191, R192) -/

theorem attention_iff (k : Link) : k.attention = true ↔ 1 ≤ k.notices.length := by
  rw [Link.attention, Nat.one_le_iff_ne_zero]
  simp

/-- A notice handed over leaves the queue with an entry (R190). -/
theorem queueNotice_length_pos (t : BitVec 32) (n : Notice) (q : List NoticeEntry) :
    1 ≤ (queueNotice t n q).length := by
  obtain ⟨-, e⟩ | ⟨-, e⟩ | ⟨full, e⟩ := queueNotice_cases t n q <;> rw [e]
  · simp
  · simp
  · rw [bumpOverflow_length]; omega

/-- Settles O29: the line is the queue's own emptiness, and each part says what the queue then holds. -/
theorem attentionFollowsTheNoticeQueue : Obligations.AttentionFollowsTheNoticeQueue := by
  refine ⟨fun s => attention_iff s.link, fun n s => (attention_iff _).mpr (queueNotice_length_pos _ n _),
    fun s ready => ?_, fun s => ⟨resetStation s, rfl, rfl⟩, fun s h => ?_, fun c code s hc h => ?_⟩
  · obtain ⟨t, run, answered, -⟩ := ServoIntake.exec_answered (c := .readNotices) (body := cmdReadNotices) rfl rfl
      ready rfl (sameHost_notices (sameHost_refl _) _)
    have left : t.link.notices = s.link.notices.drop 8 := answered.notices
    refine ⟨t, run, answered.frame, left, ?_⟩
    rw [← Bool.not_eq_true, attention_iff, left, List.length_drop]
    omega
  · have emptied : (carryOut cmdReset s).1 = resetStation s := resetStation_report_fall .hostSilent s
    refine ⟨_, exec_inCommand rfl h, ?_⟩
    rw [Link.attention, takeMessage_notices]
    exact congrArg (fun u : State => !u.link.notices.isEmpty) emptied
  · obtain ⟨t, resp, data, run, answers, -⟩ := exec_answers hc h
    exact ⟨t, resp, data, run, answers⟩

/-! ### The host-silence timer's expiry (R193, R194) -/

/-- The station with its host-silence timer run out, before the report (R193). -/
def silenceExpired (s : State) : State := { s with link := { s.link with silence := .expired } }

theorem expireSilence_running {s : State} {left : Nat} (h : s.link.silence = .running left) :
    expireSilence s = report .hostSilent true (silenceExpired s) := by
  rw [expireSilence, h]
  rfl

theorem expireSilence_not_running {s : State} (h : ∀ left, s.link.silence ≠ .running left) : expireSilence s = s := by
  unfold expireSilence
  split
  next left running => exact absurd running (h left)
  iterate 2 next => rfl

/-- A clear HOST_SILENT entry latches when its condition rises (R7, R13). -/
theorem report_hostSilent_rises {s : State} (hc : (s.entry .hostSilent).condition = false)
    (hl : (s.entry .hostSilent).latched = false) :
    report .hostSilent true (silenceExpired s) =
      latch .hostSilent (withCondition .hostSilent true (silenceExpired s)) :=
  reportWith_rise (s := silenceExpired s) hc hl

/-- Settles O42: the expiry is a latch of HOST_SILENT's clear entry, taken apart by class and posture. -/
theorem hostSilenceRaisesItsCause : Obligations.HostSilenceRaisesItsCause := by
  intro s
  have taken : exec .hostSilenceExpiry s = .next (expireSilence s) := rfl
  refine ⟨fun left running hc hl => ?_, fun stopped => by rw [taken, expireSilence_not_running stopped]⟩
  rw [expireSilence_running running] at taken
  have keeps := report_keeps .hostSilent true (silenceExpired s)
  have rises := report_hostSilent_rises hc hl
  refine ⟨_, taken, keeps.silence, keeps.response, reportWith_condition (by simp) (by simp) true true _, ?_,
    fun d hd => reportWith_latched_other hd true true _, fun hcls hp => ?_, fun hcls hp => ?_, fun hp => ?_⟩
  · rw [rises]; exact latch_latched _ _
  · rw [rises, latch_hold_in_run (by exact hcls) (by exact hp)]
    exact ⟨by simp, by simp [silenceExpired, State.loadNow]⟩
  · rw [rises, latch_unload_enters (by exact hcls) (by exact hp)]
    exact ⟨by simp, by simp [silenceExpired, State.loadNow]⟩
  · rw [rises, latch_eq, postureOnLatch_rests _ _ (by exact hp)]
    split <;> simp [silenceExpired]

end Sys2Proof.StationLink

/-! ## Selects of the station link, whole and bit by bit, and the state after reset (R185, R197) -/

namespace Sys2Proof.StationLink

open Sys2Proof Sys2Proof.Machine Sys2Proof.Laws Sys2Proof.Safety Sys2Proof.Claims Sys2Proof.Postures

/-! ### A select as a whole -/

/-- A select of n bytes in RESPONSE phase sends the response from its first byte, and takes it away where it went out
whole (R185). -/
theorem clockResponse_eq {r : List Byte} {s : State} (h : s.link.response = some r) (n : Nat) :
    clockResponse r n s = { s with
      link := { s.link with
        response := if r.length ≤ n then none else some r
        sent := r.take n ++ List.replicate (n - r.length) 0#8 } } := by
  unfold clockResponse
  split
  · rfl
  · rw [← h]; rfl

/-! ### A select bit by bit -/

/-- A byte's bits, most significant first, are read as the byte (R185). -/
theorem byteOfBits_getMsbD (c : Byte) :
    byteOfBits [c.getMsbD 0, c.getMsbD 1, c.getMsbD 2, c.getMsbD 3, c.getMsbD 4, c.getMsbD 5, c.getMsbD 6,
      c.getMsbD 7] = c := by
  revert c
  decide

/-- The whole bytes of a message's bits are its bytes, and a partial byte behind them is dropped (R185). -/
theorem wholeBytes_messageBits (m : List Byte) {part : List Bool} (h : part.length < 8) :
    wholeBytes (messageBits m ++ part) = m := by
  induction m with
  | nil => exact wholeBytes_partial h
  | cons c m ih =>
    have bits : messageBits (c :: m) ++ part = c.getMsbD 0 :: c.getMsbD 1 :: c.getMsbD 2 :: c.getMsbD 3 ::
        c.getMsbD 4 :: c.getMsbD 5 :: c.getMsbD 6 :: c.getMsbD 7 :: (messageBits m ++ part) := rfl
    rw [bits, wholeBytes_byte, byteOfBits_getMsbD, ih]

/-- With no attempt to start, the host's next act on its lines is taken (logs 1 and 41). -/
theorem step_takes {s : State} {e : HostEdge} {rest : List HostEdge} (hq : s.pending = []) (waits : ¬StartsAtOnce s)
    (he : s.link.edges = e :: rest) (hp : e ≠ .pause) : step s = .next (takeEdge e (nextEdge rest s)) := by
  have due : s.line.attemptDue = false := by
    rw [← Bool.not_eq_true, attemptDue_iff]
    exact waits
  rw [step, hq]
  exact congrArg Host.Outcome.next (tick_edge due he hp)

theorem takeEdge_select {s : State} (h : s.link.select = false) :
    takeEdge .select s = { s with link := { s.link with select := true, bits := [] } } := by
  rw [takeEdge, Link.asserted, h]
  rfl

theorem takeEdge_clock {s : State} (b : Bool) (h : s.link.select = true) :
    takeEdge (.clock b) s = { s with link := { s.link with bits := s.link.bits ++ [b] } } := by
  rw [takeEdge, Link.clocked, if_pos h]

/-- Without select a clock or a release is not the station's (R185). -/
theorem takeEdge_unselected {s : State} {e : HostEdge} (h : s.link.select = false)
    (he : e = .release ∨ ∃ b, e = .clock b) : takeEdge e s = s := by
  obtain rfl | ⟨b, rfl⟩ := he
  · exact if_neg (by simp [h])
  · rw [takeEdge, Link.clocked, if_neg (by simp [h])]

theorem takeEdge_release {s : State} (h : s.link.select = true) :
    takeEdge .release s = { s with
      link := { s.link with
        select := false, bits := [], sent := if (selectCommand s.link).isSome then s.link.sent else [] }
      pending := (selectCommand s.link).toList } := if_pos h

section
variable {l : Link} {m : List Byte} {part : List Bool}
variable (hbits : l.bits = messageBits m ++ part) (short : part.length < 8)
include hbits short

/-- In RESPONSE phase a select reads the response for its whole bytes (R185). -/
theorem selectCommand_inResponse (h : l.response ≠ none) : selectCommand l = some (.pendingResponseRead m.length) := by
  rw [selectCommand, hbits, wholeBytes_messageBits m short]
  cases hr : l.response with
  | none => exact absurd hr h
  | some r => rfl

/-- In COMMAND phase a select hands over what its whole bytes spell, none where there is none (R185). -/
theorem selectCommand_inCommand (h : l.response = none) :
    selectCommand l = if m.isEmpty then none else some (spelled m) := by
  rw [selectCommand, hbits, wholeBytes_messageBits m short, h]

end

/-- The bit that goes out is the pending response's at its place, and 0 with none pending (R185). -/
theorem dataOut_eq {l : Link} {k j : Nat} (hj : j < 8) (h : l.bits.length = 8 * k + j) :
    (∀ r, l.response = some r → l.dataOut = (r.getD k 0#8).getMsbD j) ∧ (l.response = none → l.dataOut = false) := by
  have byte : (8 * k + j) / 8 = k := by omega
  have bit : (8 * k + j) % 8 = j := by omega
  rw [Link.dataOut, Link.bitSent, h, byte, bit]
  exact ⟨fun r hr => by rw [hr], fun hr => by rw [hr]⟩

/-- Settles O4: whole selects by their phase, the bits act by act. -/
theorem pendingResponseIsClockedOut : Obligations.PendingResponseIsClockedOut := by
  refine ⟨fun n s => ⟨fun r hr => ?_, fun hr => ?_, fun c m r encoded hr => ?_⟩, fun s rest hq waits => ?_,
    fun l k j => dataOut_eq⟩
  · have read : exec (.pendingResponseRead n) s = .next (readPending n s) := rfl
    rw [read, readPending, hr]
    exact congrArg Host.Outcome.next (clockResponse_eq hr n)
  · have read : exec (.pendingResponseRead n) s = .next (readPending n s) := rfl
    rw [read, readPending, hr]
  · obtain ⟨code, hc, -⟩ := encodeMessage_eq_some.mp encoded
    rw [exec_eq_sendCommand hc, sendCommand, encoded, Option.getD_some, exchange_inResponse hr, clockResponse_eq hr]
  · refine ⟨fun he hs => ?_, fun b he hs => ?_, fun hs he => ?_, fun m part he hs hbits short => ?_⟩
    · rw [step_takes hq waits he (by simp), takeEdge_select (s := nextEdge rest s) hs]
      rfl
    · rw [step_takes hq waits he (by simp), takeEdge_clock (s := nextEdge rest s) b hs]
      rfl
    · obtain ⟨e, he, kind⟩ : ∃ e, s.link.edges = e :: rest ∧ (e = .release ∨ ∃ b, e = .clock b) := by
        obtain he | ⟨b, he⟩ := he
        · exact ⟨_, he, .inl rfl⟩
        · exact ⟨_, he, .inr ⟨b, rfl⟩⟩
      rw [step_takes hq waits he (by rintro rfl; simp at kind), takeEdge_unselected (s := nextEdge rest s) hs kind]
      rfl
    · have released := step_takes hq waits he (by simp)
      rw [takeEdge_release (s := nextEdge rest s) hs] at released
      refine ⟨_, released, rfl, fun hr empty => ?_, fun hr whole => ?_, fun hr => ?_⟩
      · have handed : selectCommand s.link = none :=
          (selectCommand_inCommand hbits short hr).trans (if_pos (by simp [empty]))
        exact congrArg Option.toList handed
      · have handed := (selectCommand_inCommand hbits short hr).trans (if_neg (by simpa using whole))
        have queued : (selectCommand s.link).toList = [spelled m] := by rw [handed]; rfl
        exact ⟨fun c parsed => queued.trans (by rw [spelled, parsed]),
          fun resp parsed => queued.trans (by rw [spelled, parsed])⟩
      · exact congrArg Option.toList (selectCommand_inResponse hbits short hr)

/-! ### The state after reset -/

/-- After reset every entry is clear, and LOAD_STALE's condition alone is true (R3). -/
theorem reset_entry (c : Cause) : State.reset.entry c = if Cause.loadStale = c then { condition := true } else {} :=
  resetStation_entry State.reset c

theorem reset_unlatched (c : Cause) : (State.reset.entry c).latched = false := by
  rw [reset_entry]
  split <;> rfl

theorem reset_condition {c : Cause} (h : c ≠ .loadStale) : (State.reset.entry c).condition = false := by
  rw [reset_entry, if_neg h.symm]

theorem reset_strainLaw : strainLaw State.reset := fun i => by
  rw [reset_condition (by simp)]
  simp [State.reset, strainCondition]

theorem reset_crackLaw : crackLaw State.reset := fun i => by
  rw [reset_condition (by simp)]
  simp [State.reset, crackCondition]

theorem reset_derateLaw : derateLaw State.reset := by
  simp [Safety.derateLaw, State.reset, derateCondition]

/-- Every default lies in its range (R201). -/
theorem reset_settingsLaw : settingsLaw State.reset := by decide

/-- With no peer in the table no peer condition is true (R108). -/
theorem reset_peerConditionLaw : peerConditionLaw State.reset :=
  ⟨reset_condition (by simp), reset_condition (by simp), reset_condition (by simp)⟩

/-- Settles O60: IDLE with every entry unlatched, every queue, table and slot empty, the loop and the trim at 0, and the
defaults in their ranges. -/
theorem resetMeetsEveryLaw : Obligations.ResetMeetsEveryLaw := by
  have cause : causeLaw State.reset :=
    ⟨fun c _ latched => absurd latched (by simp [reset_unlatched]), by rw [reset_unlatched, reset_condition (by simp)]⟩
  have hold : holdLaw State.reset := fun held => by cases held
  have record : recordLaw State.reset :=
    ⟨fun held => (by cases held), fun unloading => (by cases unloading), fun r written => by cases written⟩
  have demand : demandLaw State.reset := (if_neg fun k => by cases k.1).symm
  have loop : loopLaw State.reset := by simp [Safety.loopLaw, State.reset]
  have trim : trimLaw State.reset := by simp [Safety.trimLaw, State.reset]
  have program : programLaw State.reset := by simp [Safety.programLaw, State.reset, seqAfter]
  have notice : noticeLaw State.reset := by simp [Safety.noticeLaw, State.reset]
  have hit : hitLaw State.reset := by simp [Safety.hitLaw, State.reset]
  have table : tableLaw State.reset := by simp [Safety.tableLaw, State.reset]
  have line : lineLaw State.reset :=
    ⟨fun f flying => (by cases flying), fun k counted => (by cases counted), fun k counted => (by cases counted),
      fun k counted => by cases counted⟩
  exact ⟨cause, hold, record, demand, loop, trim, program, notice, hit, table, reset_peerConditionLaw, line,
    reset_strainLaw, reset_crackLaw, reset_derateLaw, reset_settingsLaw⟩

end Sys2Proof.StationLink

/-! ## The step on a queue that holds a command (95; its counterpart on an empty queue is O2) -/

namespace Sys2Proof.CommandQueue

open Sys2Proof Sys2Proof.Machine

/-- Settles O1: the queue's front selects the branch of the step that is not the tick. -/
theorem stepRunsTheFrontCommand : Obligations.StepRunsTheFrontCommand := by
  intro c rest s front
  rw [step, front]

end Sys2Proof.CommandQueue
